-- ==== Sys2Proof/Word.lean ====
section
/-! DEFINITION. The plain words of the model: bytes, identities, stations and times.
What the manual treats as bits is a bit vector; what it only counts or names is a natural number. -/

namespace Sys2Proof

/-- One byte of a frame or a record (chapter 13). -/
abbrev Byte := BitVec 8

/-- A client ID: the 48-bit radio address of a client; 0 is not a client (00_scope.md, Terms). -/
abbrev ClientId := BitVec 48

/-- A 32-bit ticket serial (R64). -/
abbrev Serial := BitVec 32

/-- A segment sequence: it wraps at 65536 (R115, R116). -/
abbrev Sequence := BitVec 16

/-- A 16-bit code, key or check word of a token or of the station record (R64, R66). -/
abbrev Code := BitVec 16

/-- A place on the row bus (R155). -/
abbrev Station := Nat

/-- A seat number (R73). -/
abbrev Seat := Nat

/-- A replay stream's ID (R102). -/
abbrev StreamId := Nat

/-- A time or a duration in ticks of 100 ns, one bit time of the row bus (R155; log 1). -/
abbrev Time := Nat

end Sys2Proof
end

