-- ==== Sys2Proof/Syntax.lean ====
section
/-! DEFINITION. The commands of the node: one constructor per row of spec/opcode_table.json.
Every command carries `dt`, the ticks that have passed since the event before it (log 1). A command that takes a frame from
the receive queue or a record from the uplink queue carries nothing of it: the frame or record stands in the state. -/

namespace Sys2Proof

/-- The commands, in the order of spec/opcode_table.json. -/
inductive Instr where
  /-- POWER_ON_RESET (R193): power-on, with the five strap pins as read (an open pin reads 1). -/
  | powerOnReset (dt : Time) (strap : BitVec 5)
  /-- RESET_PIN (R193): the active-low RESET pin, with the five strap pins as read. -/
  | resetPin (dt : Time) (strap : BitVec 5)
  /-- STATION_RECORD_READ_DONE (R194): the SPI read ends having delivered these bytes. -/
  | stationRecordReadDone (dt : Time) (record : List Byte)
  /-- STATION_RECORD_READ_TIMEOUT (R194): 10 ms have passed without the whole record. -/
  | stationRecordReadTimeout (dt : Time)
  /-- ANNOUNCEMENT_PERIOD_BOUNDARY (R146). -/
  | announcementPeriodBoundary (dt : Time)
  /-- UPLINK_RECORD_ARRIVAL (R172): a record of these bytes from the radio unit. -/
  | uplinkRecordArrival (dt : Time) (record : List Byte)
  /-- HEARD (R6): the oldest uplink record, a HEARD, is taken. -/
  | heard (dt : Time)
  /-- JOIN_REQUEST (R8): the oldest uplink record, a JOIN_REQUEST, is taken. -/
  | joinRequest (dt : Time)
  /-- LEAVE (R11): the oldest uplink record, a LEAVE, is taken. -/
  | leave (dt : Time)
  /-- CAPS_PIECE (R14): the oldest uplink record, a CAPS_PIECE, is taken. -/
  | capsPiece (dt : Time)
  /-- SUBSCRIBE_ON (R17): the oldest uplink record, a SUBSCRIBE with the on flag, is taken. -/
  | subscribeOn (dt : Time)
  /-- SUBSCRIBE_OFF (R18): the oldest uplink record, a SUBSCRIBE with the off flag, is taken. -/
  | subscribeOff (dt : Time)
  /-- TOKEN (R65): the oldest uplink record, a TOKEN, is taken. -/
  | token (dt : Time)
  /-- INACTIVITY_EXPIRY (R12) of this client's entry. -/
  | inactivityExpiry (dt : Time) (client : ClientId)
  /-- SIGHTING_EXPIRY (R5): the 10 s removal of this client's sighting. -/
  | sightingExpiry (dt : Time) (client : ClientId)
  /-- BACKOFF_EXPIRY (R5) of this client's sighting. -/
  | backoffExpiry (dt : Time) (client : ClientId)
  /-- ROAM_CLAIM (R41): the RE takes a received claim. -/
  | roamClaim (dt : Time)
  /-- ROAM_GRANT (R46): the RE takes a received grant. -/
  | roamGrant (dt : Time)
  /-- ROAM_DENY (R48): the RE takes a received denial. -/
  | roamDeny (dt : Time)
  /-- ROAM_RETURN (R54): the RE takes a received return. -/
  | roamReturn (dt : Time)
  /-- CLIENT_MOVED (R58): the RE takes a received CLIENT_MOVED. -/
  | clientMoved (dt : Time)
  /-- CONTEXT_REPLY (R59): the RE takes a received context reply. -/
  | contextReply (dt : Time)
  /-- CLAIM_TIMER_EXPIRY (R49) of this client's RESERVED entry. -/
  | claimTimerExpiry (dt : Time) (client : ClientId)
  /-- ROAM_IN_TIMER_EXPIRY (R52) of this client's ROAM_IN entry. -/
  | roamInTimerExpiry (dt : Time) (client : ClientId)
  /-- GRANT_TIMER_EXPIRY (R53) of this client's ROAM_OUT entry. -/
  | grantTimerExpiry (dt : Time) (client : ClientId)
  /-- HOLD_DOWN_EXPIRY (R56) of this client's entry. -/
  | holdDownExpiry (dt : Time) (client : ClientId)
  /-- CONTEXT_WAIT_EXPIRY (R57) of this client's entry. -/
  | contextWaitExpiry (dt : Time) (client : ClientId)
  /-- TOKEN_FORWARD (R75): the SV takes a received forward. -/
  | tokenForward (dt : Time)
  /-- TOKEN_RESULT (R70): the SV takes a received result. -/
  | tokenResult (dt : Time)
  /-- PENDING_TOKEN_TIMER_EXPIRY (R71) of the pending entry with this key. -/
  | pendingTokenTimerExpiry (dt : Time) (client : ClientId) (serial : Serial)
  /-- SEAT_HOLD_EXPIRY (R80) of this seat. -/
  | seatHoldExpiry (dt : Time) (seat : Seat)
  /-- SEAT_RELEASED (R20): the AU takes a received release. -/
  | seatReleased (dt : Time)
  /-- AUTHORITY_TIMER_EXPIRY (R90) of the contest on this seat. -/
  | authorityTimerExpiry (dt : Time) (seat : Seat)
  /-- AUTHORITY_ANSWER_KEEP (R93): the SV takes an answer with verdict KEEP. -/
  | authorityAnswerKeep (dt : Time)
  /-- AUTHORITY_ANSWER_REPLACE (R94): the SV takes an answer with verdict REPLACE. -/
  | authorityAnswerReplace (dt : Time)
  /-- AUTHORITY_ANSWER_BLOCK (R95): the SV takes an answer with verdict BLOCK. -/
  | authorityAnswerBlock (dt : Time)
  /-- AUTHORITY_ANSWER_UNBLOCK (R96): the SV takes an answer with verdict UNBLOCK. -/
  | authorityAnswerUnblock (dt : Time)
  /-- MATCH_STATE_OPEN (R82): the SV takes a MATCH_STATE that carries OPEN. -/
  | matchStateOpen (dt : Time)
  /-- MATCH_STATE_CLOSED (R83): the SV takes a MATCH_STATE that carries CLOSED. -/
  | matchStateClosed (dt : Time)
  /-- BLOCK_RESET_ROAM (R21, R63): the AU takes a BLOCK_RESET with target ROAM. -/
  | blockResetRoam (dt : Time)
  /-- BLOCK_RESET_TICKET (R84): the SV takes a BLOCK_RESET with target TICKET. -/
  | blockResetTicket (dt : Time)
  /-- BLOCK_RESET_REPLAY (R119, R135): the RU takes a BLOCK_RESET with target REPLAY. -/
  | blockResetReplay (dt : Time)
  /-- BLOCK_RESET_COUNTERS (R191): the CB takes a BLOCK_RESET with target COUNTERS. -/
  | blockResetCounters (dt : Time)
  /-- STREAM_ANNOUNCE_LIVE (R104, R105): the RU takes a STREAM_ANNOUNCE with status LIVE. -/
  | streamAnnounceLive (dt : Time)
  /-- STREAM_ANNOUNCE_ENDED (R106): the RU takes a STREAM_ANNOUNCE with status ENDED. -/
  | streamAnnounceEnded (dt : Time)
  /-- SEGMENT (R117): the RU takes a received segment. -/
  | segment (dt : Time)
  /-- SLOT_START (R125): the next slot of the running cycle starts. -/
  | slotStart (dt : Time)
  /-- CYCLE_END (R133): the running cycle ends. -/
  | cycleEnd (dt : Time)
  /-- PRESENCE (R141): the ANU takes a received PRESENCE. -/
  | presence (dt : Time)
  /-- LOAD (R143): the ANU takes a received LOAD. -/
  | load (dt : Time)
  /-- HARVEST_REQUEST (R187): the CB takes a received request. -/
  | harvestRequest (dt : Time)
  /-- FRAME_RECEIVED (R165): the line goes quiet at the end of a frame of which these bytes arrived. -/
  | frameReceived (dt : Time) (bytes : List Byte)
  /-- LINE_BUSY (R161): the line goes busy. -/
  | lineBusy (dt : Time)
  /-- DEFERRAL_COMPLETE (R162): the deferral has run in full with the line quiet. -/
  | deferralComplete (dt : Time)
  /-- TX_COLLISION (R163): a header bit read back differs. -/
  | txCollision (dt : Time)
  /-- TX_COMPLETE (R162): the last check byte has gone out. -/
  | txComplete (dt : Time)
  /-- RADIO_READY (R175): the radio unit signals ready. -/
  | radioReady (dt : Time)
  /-- DOWNLINK_TRANSFER_COMPLETE (R178): the transfer of the oldest downlink record completes. -/
  | downlinkTransferComplete (dt : Time)
  /-- RADIO_READY_WITHDRAWN (R175): the radio unit withdraws its ready signal. -/
  | radioReadyWithdrawn (dt : Time)
  deriving DecidableEq, Repr

end Sys2Proof
end

