-- ==== Sys2Proof/Decode.lean ====
section
/-! DEFINITION. Decoding of the opcode table's words. No row of spec/opcode_table.json carries bits (98_reader.md:
"n_rows_with_fixed": 0, "n_rows_with_fields": 0): the commands are events, and no word spells one. -/

namespace Sys2Proof

/-- The command that a word of the table spells: none, since no row carries bits. -/
def decodeTableWord (_nbits _w : Nat) : Option Instr := none

end Sys2Proof
end

