-- ==== Sys2Proof/Config.lean ====
section
/-! DEFINITION. What the manual leaves open for good: the free values. -/

namespace Sys2Proof

/-- DESIGN CHOICE (log 9). The rank that orders the replies one event hands over for several clients, where the
manual gives no order (R106: "The order of the ENDED replies among several clients carries no meaning"; R83 gives the
DROP_CLIENT records of its step 4 none). The first argument numbers the event's draw; nothing is known of the value. -/
opaque Config.replyRank : Nat → ClientId → Nat

end Sys2Proof
end

