-- ==== Sys2Proof/Machine/State.lean ====
section
/-! DEFINITION. The state of the node, grouped by the block that owns it (00_scope.md, "Block diagram"), as plain data,
and the state right after reset. INVENTORY.md lists each field with its rule. -/

namespace Sys2Proof.Machine

/-! ## Names the manual enumerates (R201) -/

/-- Node states (00_scope.md, "Node states"). -/
inductive NodeState where
  | starting | listening | running | silent
  deriving DecidableEq, Repr

/-- Replay tiers. -/
inductive Tier where
  | low | high
  deriving DecidableEq, Repr

/-- Fill modes (R129). -/
inductive Fill where
  | repeat | skip
  deriving DecidableEq, Repr

/-- Peer classes (R139). -/
inductive PeerClass where
  | node | gateway
  deriving DecidableEq, Repr

/-- Reasons of a ROAM_DENY (R41). -/
inductive DenyReason where
  | notServing | busy | hold | score
  deriving DecidableEq, Repr

/-- Reasons of a contest (R86). -/
inductive ContestReason where
  | duplicateSerial | doubleSale
  deriving DecidableEq, Repr

/-- Verdicts of an AUTHORITY_ANSWER (R92). -/
inductive Verdict where
  | keep | replace | block | unblock
  deriving DecidableEq, Repr

/-- Codes of a token decision (R174, R201). -/
inductive TokenCode where
  | accepted | held | pending | tryAgain | matchClosed | notOwner | contestBusy
  | refusedForm | refusedMatch | refusedRow | refusedCheck | refusedBlocked | refusedContest
  deriving DecidableEq, Repr

/-- Status of a STREAM_ANNOUNCE (R103). -/
inductive StreamStatus where
  | live | ended
  deriving DecidableEq, Repr

/-- The match state (R82). -/
inductive MatchState where
  | opened | closed
  deriving DecidableEq, Repr

/-- Targets of a BLOCK_RESET. -/
inductive ResetTarget where
  | roam | ticket | replay | counters
  deriving DecidableEq, Repr

/-- Kinds of NOTICE (R153). -/
inductive NoticeKind where
  | configDefaulted | seatOverlap | addressClash | contestDefaulted
  deriving DecidableEq, Repr

/-- Codes of a JOIN_REPLY (R8). -/
inductive JoinCode where
  | accepted | full | weak | notReady
  deriving DecidableEq, Repr

/-- Codes of a SUBSCRIBE_REPLY (R174). -/
inductive SubscribeCode where
  | ok | unknownStream | tier | limit | noAirGroup | removed | ended
  deriving DecidableEq, Repr

/-- Announcement modes of the station record (13.6). -/
inductive AnnounceMode where
  | off | periodic | bestEffort
  deriving DecidableEq, Repr

/-- The twenty-one kinds of row frame (00_scope.md, "Row frame kinds"). -/
inductive FrameKind where
  | roamClaim | roamGrant | roamDeny | roamReturn | clientMoved | contextReply
  | tokenForward | tokenResult | seatReleased | authorityQuery | authorityAnswer
  | presence | load | streamWant | harvest | notice
  | segment | streamAnnounce | harvestRequest | matchState | blockReset
  deriving DecidableEq, Repr

/-- The 24 counters, in index order (section 11.2). -/
inductive CounterId where
  | rx0 | rx1 | rx2 | rx3 | tx0 | tx1 | tx2 | tx3
  | collisions | txLost | rxOverrun | rxBad | radioDrop | replyLost
  | joinsAccepted | joinsRefused | roamsIn | roamsOut | tokensAccepted | tokensRefused | contests
  | segmentsAired | underruns | segmentsDiscarded
  deriving DecidableEq, Repr

/-! ## Shared records -/

/-- A run of seats, first to last. -/
structure SeatBlock where
  first : Seat
  last : Seat
  deriving DecidableEq, Repr

/-- A ticket token's five fields (R64). -/
structure Token where
  serial : Serial
  matchCode : Code
  rowCode : Code
  seat : Seat
  check : Code
  deriving DecidableEq, Repr

/-- A binding in a client entry (R1, R19). -/
structure Binding where
  seat : Seat
  serial : Serial
  owner : Station
  deriving DecidableEq, Repr

/-- A capability record in use (R15). -/
structure CapRecord where
  maxSubscriptions : Nat
  tier : Tier
  bytes : List Byte
  deriving DecidableEq, Repr

/-- What travels with a roaming client (R37). -/
structure Context where
  bindings : List Binding
  subscriptions : List StreamId
  record : Option CapRecord
  deriving DecidableEq, Repr

/-- Who holds or claims a seat: a seat's binding (R73) and a challenger (R87). -/
structure Holder where
  serial : Serial
  client : ClientId
  origin : Station
  deriving DecidableEq, Repr

/-- A peer's load (R139). -/
structure PeerLoad where
  occupancy : Nat
  entries : Nat
  limit : Nat
  deriving DecidableEq, Repr

/-- One counter, or one counter's place in the snapshot (R182). -/
structure Counter where
  value : Nat
  saturated : Bool
  deriving DecidableEq, Repr

/-! ## Start-up Loader (chapter 12) -/

/-- The codes a station record gives; absent in the defaulted configuration (R196). -/
structure Codes where
  rowCode : Code
  matchCode : Code
  matchKey : Code
  deriving DecidableEq, Repr

/-- The station parameters, after the clamps of R195. The counter mask has counter i at bit i (13.6). -/
structure Params where
  codes : Option Codes
  block : Option SeatBlock
  limit : Nat
  joinFloor : Int
  presenceThreshold : Int
  margin : Nat
  claimFloor : Nat
  periodMs : Nat
  presenceMode : AnnounceMode
  loadMode : AnnounceMode
  slots : Nat
  slotMs : Nat
  mask : BitVec 24
  holdSeconds : Nat
  awaySeconds : Nat
  deriving DecidableEq, Repr

/-- State of the SL (R193). -/
structure StartUp where
  nodeState : NodeState
  ownAddress : Option Station
  params : Option Params
  defaulted : Bool
  listeningCount : Nat
  readStarted : Option Time
  deriving DecidableEq, Repr

/-! ## Association Unit and Roam Engine (chapters 1 to 3) -/

/-- An entry's state, with the roam peer station and the expiry of the roam timer where the state has them (R38). -/
inductive EntryState where
  | reserved (peer : Station) (expiry : Time)
  | roamIn (peer : Station) (expiry : Time)
  | roamOut (peer : Station) (expiry : Time)
  | associated
  deriving DecidableEq, Repr

/-- A context wait (R57). -/
structure ContextWait where
  oldStation : Station
  expiry : Time
  deriving DecidableEq, Repr

/-- A client entry (R1). `sampled` is clear in an unsampled entry (R26; log 8). -/
structure ClientEntry where
  id : ClientId
  state : EntryState
  signal : Int
  sampled : Bool
  lastHeard : Time
  score : Nat
  bindings : List Binding
  subscriptions : List StreamId
  record : Option CapRecord
  assemblyNext : Nat
  assemblyBytes : List Byte
  holdDown : Option Time
  contextWait : Option ContextWait
  deriving DecidableEq, Repr

/-- A sighting's status, with the back-off expiry where BACKOFF has it (R3). -/
inductive SightingStatus where
  | seen
  | backoff (expiry : Time)
  deriving DecidableEq, Repr

/-- A sighting (R3); `removal` is the time of its removal by R5. -/
structure Sighting where
  id : ClientId
  signal : Int
  lastHeard : Time
  cell : Station
  status : SightingStatus
  removal : Time
  deriving DecidableEq, Repr

/-- State of the AU, with the RE's state in its entries and sightings (R38). Both lists rise in client ID (log 21). -/
structure Association where
  clients : List ClientEntry
  sightings : List Sighting
  deriving DecidableEq, Repr

/-! ## Seat Validator (chapters 4 and 5) -/

/-- The states a seat can be in when a contest is raised, and return to (R73, R86). -/
inductive BoundState where
  | held | occupied | away
  deriving DecidableEq, Repr

/-- A seat's state, with its binding where the state has one (R73). -/
inductive SeatState where
  | vacant
  | bound (st : BoundState) (holder : Holder)
  | contested (prior : BoundState) (incumbent : Holder)
  | blocked
  deriving DecidableEq, Repr

/-- A seat record (R73). -/
structure SeatRecord where
  number : Seat
  state : SeatState
  heldSince : Time
  lastPresent : Time
  deriving DecidableEq, Repr

/-- A pending-token entry (R69). -/
structure PendingToken where
  client : ClientId
  token : Token
  destination : Station
  reforwarded : Bool
  expiry : Time
  deriving DecidableEq, Repr

/-- An authority entry (R87). -/
structure AuthorityEntry where
  seat : Seat
  reason : ContestReason
  challenger : Holder
  attempts : Nat
  expiry : Time
  deriving DecidableEq, Repr

/-- State of the SV. -/
structure SeatValidator where
  matchState : MatchState
  seats : List SeatRecord
  pendingTokens : List PendingToken
  authority : List AuthorityEntry
  deriving DecidableEq, Repr

/-! ## Replay Unit (chapters 6 and 7) -/

/-- A stream's activity (R102, R107). -/
inductive Activity where
  | dormant | joining | active | leaving
  deriving DecidableEq, Repr

/-- A cached segment: its length and units follow from its data, its stream and aired flag from where it is kept (R115; log 18). -/
structure Segment where
  seq : Sequence
  data : List Byte
  deriving DecidableEq, Repr

/-- A catalogue entry (R102) with the stream's cached segments (R115): the aired one, and the unaired ones in wrap-aware order. -/
structure StreamEntry where
  id : StreamId
  tier : Tier
  fill : Fill
  activity : Activity
  ended : Bool
  subscribers : Nat
  airGroup : Option Nat
  next : Option Sequence
  underrunRun : Nat
  lastAnnounced : Time
  joinMarker : Bool
  aired : Option Segment
  unaired : List Segment
  deriving DecidableEq, Repr

/-- The replay cycle's state (R121). An element of `active` becomes absent when its entry is deleted (R106, R123). -/
structure ReplayCycle where
  running : Bool
  offset : Nat
  active : List (Option StreamId)
  slot : Option Nat
  units : Nat
  startedAt : Time
  deriving DecidableEq, Repr

/-- State of the RU. The catalogue rises in stream ID (log 21). -/
structure ReplayUnit where
  catalogue : List StreamEntry
  cycle : ReplayCycle
  occupancy : Nat
  deriving DecidableEq, Repr

/-! ## Announcement Unit (chapter 8) -/

/-- A peer's status (R139). -/
inductive PeerStatus where
  | live | stale
  deriving DecidableEq, Repr

/-- A peer entry (R139). -/
structure PeerEntry where
  station : Station
  cls : PeerClass
  block : Option SeatBlock
  load : Option PeerLoad
  status : PeerStatus
  lastFrame : Time
  overlap : Bool
  deriving DecidableEq, Repr

/-- The flags of an announcement buffer (R147). -/
structure Buffer where
  armed : Bool
  skippedLast : Bool
  queued : Bool
  deriving DecidableEq, Repr

/-- A pending notice (R153). -/
structure Notice where
  kind : NoticeKind
  subject : Nat
  deriving DecidableEq, Repr

/-- The four announcement kinds (R147). -/
inductive AnnounceKind where
  | presence | load | streamWant | harvest
  deriving DecidableEq, Repr

/-- State of the ANU. The peer table rises in station (log 21). -/
structure Announcement where
  peers : List PeerEntry
  nextBoundary : Option Time
  presence : Buffer
  load : Buffer
  streamWant : Buffer
  harvest : Buffer
  wantList : List StreamId
  notices : List Notice
  deriving DecidableEq, Repr

/-! ## Counter Bank (chapter 11) -/

/-- State of the CB. The mask is the station parameters' (R185; log 18). -/
structure CounterBank where
  counters : Vector Counter 24
  snapshot : Vector Counter 24
  deriving DecidableEq, Repr

/-! ## Row Bus Controller (chapter 9) -/

/-- What a row frame says, by kind (chapter 13, section 13.2). -/
inductive Message where
  | roamClaim (client : ClientId) (score : Nat)
  | roamGrant (client : ClientId) (context : Context)
  | roamDeny (client : ClientId) (reason : DenyReason) (score : Nat)
  | roamReturn (client : ClientId)
  | clientMoved (client : ClientId) (contextWanted : Bool)
  /-- `context` absent is the EMPTY flag (R37). -/
  | contextReply (client : ClientId) (context : Option Context)
  | tokenForward (client : ClientId) (token : Token)
  | tokenResult (client : ClientId) (serial : Serial) (seat : Seat) (code : TokenCode)
  | seatReleased (client : ClientId) (serial : Serial) (seat : Seat)
  | authorityQuery (seat : Seat) (reason : ContestReason) (incumbent challenger : Holder)
  | authorityAnswer (seat : Seat) (verdict : Verdict)
  | presence (cls : PeerClass) (block : Option SeatBlock) (defaulted admitting : Bool)
  | load (occupancy entries limit : Nat)
  | streamWant (streams : List StreamId)
  | harvest (snapshot : Vector Counter 24)
  | notice (kind : NoticeKind) (subject : Nat)
  /-- `length` is the length field as carried; R117 compares it with the data. -/
  | segment (stream : StreamId) (seq : Sequence) (length : Nat) (data : List Byte)
  | streamAnnounce (stream : StreamId) (tier : Tier) (fill : Fill) (status : StreamStatus)
  | harvestRequest
  | matchState (value : MatchState)
  | blockReset (target : ResetTarget)
  deriving DecidableEq, Repr

/-- What a queued frame carries: a message fixed when it was handed over, or an announcement, whose content is read at the
start of each transmission attempt (R148, R159, R188). -/
inductive TxBody where
  | message (m : Message)
  | announcement (k : AnnounceKind)
  deriving DecidableEq, Repr

/-- A frame handed to the RBC: its destination and its body; the source is the node's own address (R155). -/
structure TxFrame where
  destination : Station
  body : TxBody
  deriving DecidableEq, Repr

/-- The transmitter (R160): `attempts` is the attempt count of the frame in hand, `since` the time it entered DEFER, and
`wire` the bytes an attempt drives onto the line. -/
inductive Transmitter where
  | idle
  | defer (hand : TxFrame) (attempts : Nat) (since : Time)
  | sending (hand : TxFrame) (attempts : Nat) (wire : List Byte)
  deriving DecidableEq, Repr

/-- A frame in the receive queue (R168). -/
structure RxFrame where
  destination : Station
  source : Station
  kind : FrameKind
  payload : List Byte
  storedAt : Time
  deriving DecidableEq, Repr

/-- State of the RBC. `txUrgent` and `txNormal` are the waiting frames in order of acceptance (R157). `quietSince` is
absent while the line is busy (R160). `rxMuted` is set from a collision until the line next goes quiet (R164). -/
structure RowBus where
  tx : Transmitter
  txUrgent : List TxFrame
  txNormal : List TxFrame
  quietSince : Option Time
  rxMuted : Bool
  rxQueue : List RxFrame
  clashNoted : Bool
  deriving DecidableEq, Repr

/-! ## Radio Port (chapter 10) -/

/-- An uplink record's kind and its further fields (R171). -/
inductive UplinkBody where
  | heard
  | joinRequest
  | leave
  | capsPiece (index : Nat) (last : Bool) (data : List Byte)
  | subscribe (stream : StreamId) (on : Bool)
  | token (token : Token)
  deriving DecidableEq, Repr

/-- An uplink record (R171). -/
structure UplinkRecord where
  client : ClientId
  rssi : Int
  cell : Station
  body : UplinkBody
  deriving DecidableEq, Repr

/-- A downlink record (R174). -/
inductive Downlink where
  | joinReply (client : ClientId) (code : JoinCode) (redirect : Option Station)
  | moveTo (client : ClientId) (station : Station)
  | tokenReply (client : ClientId) (code : TokenCode) (seat : Seat)
  | subscribeReply (client : ClientId) (stream : StreamId) (code : SubscribeCode) (airGroup : Option Nat)
  | dropClient (client : ClientId)
  | airSlot (airGroup : Nat) (stream : StreamId) (seq : Sequence) (units : Nat) (join rep : Bool) (data : List Byte)
  deriving DecidableEq, Repr

/-- The downlink transfer (R175), with the bytes of the record in transfer. -/
inductive Transfer where
  | idle
  | sending (bytes : List Byte)
  deriving DecidableEq, Repr

/-- State of the RP. -/
structure RadioPort where
  uplink : List UplinkRecord
  downlink : List Downlink
  held : List Downlink
  transfer : Transfer
  ready : Bool
  deriving DecidableEq, Repr

/-! ## The node -/

/-- The node's state. `now`, `pending` and `freeCount` are the model's own (logs 1, 2, 9): the time of the last event, the
commands that wait (first in, first out), and the number of free orders drawn. -/
structure State where
  now : Time
  pending : List Instr
  freeCount : Nat
  sl : StartUp
  au : Association
  sv : SeatValidator
  ru : ReplayUnit
  anu : Announcement
  cb : CounterBank
  rbc : RowBus
  rp : RadioPort
  deriving DecidableEq, Repr

/-- Nothing the node does is a fault: the manual gives every step an effect. No constructor, so no command ends in one. -/
inductive Fault where
  deriving DecidableEq, Repr

/-- Why a command has no meaning. -/
inductive Refusal where
  /-- Raised by Dispatch.lean alone, for a command whose meaning is not written yet; safe. No arm raises it now. -/
  | notModelled (mnemonic : String)
  deriving DecidableEq, Repr

/-! ## Power-on values -/

/-- SL after reset (R193). -/
def StartUp.initial : StartUp :=
  { nodeState := .starting, ownAddress := none, params := none, defaulted := false, listeningCount := 0, readStarted := none }

/-- AU and RE after reset (R2, R3, R38). -/
def Association.initial : Association := { clients := [], sightings := [] }

/-- SV after reset (R69, R73, R82, R87). -/
def SeatValidator.initial : SeatValidator := { matchState := .opened, seats := [], pendingTokens := [], authority := [] }

/-- The replay cycle after reset (R121). `startedAt` has no meaning while STOPPED (DESIGN CHOICE 0, log 16). -/
def ReplayCycle.stopped : ReplayCycle :=
  { running := false, offset := 0, active := [], slot := none, units := 0, startedAt := 0 }

/-- RU after reset (R102, R115, R121). -/
def ReplayUnit.initial : ReplayUnit := { catalogue := [], cycle := ReplayCycle.stopped, occupancy := 0 }

/-- An announcement buffer after reset (R147). -/
def Buffer.clear : Buffer := { armed := false, skippedLast := false, queued := false }

/-- ANU after reset (R114, R139, R147, R153). -/
def Announcement.initial : Announcement :=
  { peers := [], nextBoundary := none, presence := Buffer.clear, load := Buffer.clear, streamWant := Buffer.clear,
    harvest := Buffer.clear, wantList := [], notices := [] }

/-- 24 zeros with every flag clear (R182). -/
def CounterBank.zeros : Vector Counter 24 := Vector.replicate 24 { value := 0, saturated := false }

/-- CB after reset (R182). -/
def CounterBank.initial : CounterBank := { counters := CounterBank.zeros, snapshot := CounterBank.zeros }

/-- RBC after reset (R157, R160, R166, R168), the line quiet since the given time (log 6). -/
def RowBus.initial (quietSince : Option Time) : RowBus :=
  { tx := .idle, txUrgent := [], txNormal := [], quietSince := quietSince, rxMuted := false, rxQueue := [], clashNoted := false }

/-- RP after reset (R172, R175, R176), with the radio unit's ready signal as given (log 6). -/
def RadioPort.initial (ready : Bool) : RadioPort :=
  { uplink := [], downlink := [], held := [], transfer := .idle, ready := ready }

/-- The node right after reset, before the strap is read (R193; log 5). -/
def State.reset : State :=
  { now := 0, pending := [], freeCount := 0, sl := StartUp.initial, au := Association.initial, sv := SeatValidator.initial,
    ru := ReplayUnit.initial, anu := Announcement.initial, cb := CounterBank.initial, rbc := RowBus.initial (some 0),
    rp := RadioPort.initial false }

end Sys2Proof.Machine
end

