-- ==== Sys2Proof/Machine/Layouts.lean ====
section
/-! DEFINITION. Byte layouts of frames and records (chapter 13), and the two cyclic checks (R66, R156). -/

namespace Sys2Proof.Machine

/-! ## Bytes (R201) -/

/-- A number in `k` bytes, most significant byte first (R201). -/
def beBytes : Nat → Nat → List Byte
  | 0, _ => []
  | k + 1, n => BitVec.ofNat 8 (n / 256 ^ k) :: beBytes k n

/-- The number that bytes spell, most significant byte first (R201). -/
def beNat (bs : List Byte) : Nat := bs.foldl (fun acc b => acc * 256 + b.toNat) 0

/-- The bytes `at_ .. at_ + len - 1` of a record. -/
def slice (bs : List Byte) (at_ len : Nat) : List Byte := (bs.drop at_).take len

/-- The number in the `len` bytes at `at_`. -/
def fieldAt (bs : List Byte) (at_ len : Nat) : Nat := beNat (slice bs at_ len)

/-- A flags byte: flags from bit 0 upward, unnamed bits 0 (R201). -/
def flagsByte (flags : List Bool) : Byte :=
  BitVec.ofNat 8 (flags.foldr (fun f acc => acc * 2 + f.toNat) 0)

/-- Flag `i` of the flags byte at `at_`. -/
def flagAt (bs : List Byte) (at_ i : Nat) : Bool := (bs.getD at_ 0).getLsbD i

/-- The code of an enumerated value: values are numbered from 1 in their table's order (R201). -/
def enumCode {α : Type} [BEq α] (table : List α) (x : α) : Nat := table.idxOf x + 1

/-- The enumerated value of a code, if it names one (R201). -/
def enumValue {α : Type} (table : List α) (code : Nat) : Option α :=
  if code = 0 then none else table[code - 1]?

/-! ### The enumerated fields (R201) -/

def FrameKind.table : List FrameKind :=
  [.roamClaim, .roamGrant, .roamDeny, .roamReturn, .clientMoved, .contextReply, .tokenForward, .tokenResult, .seatReleased,
    .authorityQuery, .authorityAnswer, .presence, .load, .streamWant, .harvest, .notice, .segment, .streamAnnounce,
    .harvestRequest, .matchState, .blockReset]

def PeerClass.table : List PeerClass := [.node, .gateway]
def DenyReason.table : List DenyReason := [.notServing, .busy, .hold, .score]
def ContestReason.table : List ContestReason := [.duplicateSerial, .doubleSale]
def Verdict.table : List Verdict := [.keep, .replace, .block, .unblock]

def TokenCode.table : List TokenCode :=
  [.accepted, .held, .pending, .tryAgain, .matchClosed, .notOwner, .contestBusy, .refusedForm, .refusedMatch, .refusedRow,
    .refusedCheck, .refusedBlocked, .refusedContest]

def Tier.table : List Tier := [.low, .high]
def Fill.table : List Fill := [.repeat, .skip]
def StreamStatus.table : List StreamStatus := [.live, .ended]
def MatchState.table : List MatchState := [.opened, .closed]
def ResetTarget.table : List ResetTarget := [.roam, .ticket, .replay, .counters]
def NoticeKind.table : List NoticeKind := [.configDefaulted, .seatOverlap, .addressClash, .contestDefaulted]
def JoinCode.table : List JoinCode := [.accepted, .full, .weak, .notReady]
def SubscribeCode.table : List SubscribeCode := [.ok, .unknownStream, .tier, .limit, .noAirGroup, .removed, .ended]
def AnnounceMode.table : List AnnounceMode := [.off, .periodic, .bestEffort]

/-- One byte that carries an enumerated value. -/
def enumByte {α : Type} [BEq α] (table : List α) (x : α) : Byte := BitVec.ofNat 8 (enumCode table x)

/-- The enumerated value in the byte at `at_`, if it names one. -/
def enumAt {α : Type} (table : List α) (bs : List Byte) (at_ : Nat) : Option α := enumValue table (bs.getD at_ 0).toNat

/-! ## The two checks -/

/-- One message bit of the 16-bit check (R66): compare with the most significant bit, shift left, and invert by 0x1021 where
they differed. -/
def crc16Bit (reg : Code) (bit : Bool) : Code :=
  if reg.msb == bit then reg <<< 1 else (reg <<< 1) ^^^ 0x1021#16

/-- One byte of the 16-bit check, most significant bit first (R66). -/
def crc16Byte (reg : Code) (b : Byte) : Code :=
  [7, 6, 5, 4, 3, 2, 1, 0].foldl (fun r i => crc16Bit r (b.getLsbD i)) reg

/-- The 16-bit check of some bytes, the register loaded with `start` (R66, R194). -/
def crc16 (start : Code) (bs : List Byte) : Code := bs.foldl crc16Byte start

/-- One message bit of the 32-bit check (R156): compare with the least significant bit, shift right, and invert by 0xEDB88320
where they differed. -/
def crc32Bit (reg : BitVec 32) (bit : Bool) : BitVec 32 :=
  if reg.getLsbD 0 == bit then reg >>> 1 else (reg >>> 1) ^^^ 0xEDB88320#32

/-- One byte of the 32-bit check, least significant bit first (R156). -/
def crc32Byte (reg : BitVec 32) (b : Byte) : BitVec 32 :=
  [0, 1, 2, 3, 4, 5, 6, 7].foldl (fun r i => crc32Bit r (b.getLsbD i)) reg

/-- The 32-bit check of some bytes (R156). -/
def crc32 (bs : List Byte) : BitVec 32 := ~~~ (bs.foldl crc32Byte (BitVec.allOnes 32))

/-- The check field: least significant byte first (R156, R201). -/
def crc32Bytes (bs : List Byte) : List Byte := (beBytes 4 (crc32 bs).toNat).reverse

/-! ## Parts shared by several frames -/

/-- A client ID's 6 bytes. -/
def clientBytes (c : ClientId) : List Byte := beBytes 6 c.toNat

/-- The client ID at `at_`. -/
def clientAt (bs : List Byte) (at_ : Nat) : ClientId := BitVec.ofNat 48 (fieldAt bs at_ 6)

/-- A serial's 4 bytes. -/
def serialBytes (n : Serial) : List Byte := beBytes 4 n.toNat

/-- The serial at `at_`. -/
def serialAt (bs : List Byte) (at_ : Nat) : Serial := BitVec.ofNat 32 (fieldAt bs at_ 4)

/-- The signed byte at `at_` (R201). -/
def signedAt (bs : List Byte) (at_ : Nat) : Int := (bs.getD at_ 0).toInt

/-- The ten bytes of a token that its check word covers (R66). -/
def Token.body (t : Token) : List Byte :=
  serialBytes t.serial ++ beBytes 2 t.matchCode.toNat ++ beBytes 2 t.rowCode.toNat ++ beBytes 2 t.seat

/-- A token's twelve bytes (13.3). -/
def Token.bytes (t : Token) : List Byte := t.body ++ beBytes 2 t.check.toNat

/-- The token at `at_` (13.3). -/
def tokenAt (bs : List Byte) (at_ : Nat) : Token :=
  { serial := serialAt bs at_, matchCode := BitVec.ofNat 16 (fieldAt bs (at_ + 4) 2),
    rowCode := BitVec.ofNat 16 (fieldAt bs (at_ + 6) 2), seat := fieldAt bs (at_ + 8) 2,
    check := BitVec.ofNat 16 (fieldAt bs (at_ + 10) 2) }

/-- The check word of a token under a match key (R66). -/
def tokenCheckWord (key : Code) (t : Token) : Code := crc16 key t.body

/-- A holder's eleven bytes: serial, client ID, origin (R202, AUTHORITY_QUERY). -/
def Holder.bytes (h : Holder) : List Byte := serialBytes h.serial ++ clientBytes h.client ++ beBytes 1 h.origin

/-- The holder at `at_`. -/
def holderAt (bs : List Byte) (at_ : Nat) : Holder :=
  { serial := serialAt bs at_, client := clientAt bs (at_ + 4), origin := fieldAt bs (at_ + 10) 1 }

/-! ### The context (13.4) -/

/-- A binding's seven bytes. -/
def Binding.bytes (b : Binding) : List Byte := beBytes 2 b.seat ++ serialBytes b.serial ++ beBytes 1 b.owner

/-- The binding at `at_`. -/
def bindingAt (bs : List Byte) (at_ : Nat) : Binding :=
  { seat := fieldAt bs at_ 2, serial := serialAt bs (at_ + 2), owner := fieldAt bs (at_ + 6) 1 }

/-- A capability record's part of a context. -/
def recordBytes : Option CapRecord → List Byte
  | none => []
  | some r => beBytes 1 r.maxSubscriptions ++ [enumByte Tier.table r.tier] ++ r.bytes

/-- A context's bytes. -/
def Context.bytes (c : Context) : List Byte :=
  beBytes 1 c.bindings.length ++ beBytes 1 c.subscriptions.length ++ beBytes 1 (c.record.elim 0 (·.bytes.length)) ++
    c.bindings.flatMap Binding.bytes ++ c.subscriptions.flatMap (beBytes 1) ++ recordBytes c.record

/-- The capability record of `len` opaque bytes at `at_`; the outer Option is the discard of R201 and R202. -/
def recordAt (bs : List Byte) (at_ len : Nat) : Option (Option CapRecord) :=
  if len = 0 then some none
  else
    match enumAt Tier.table bs (at_ + 1) with
    | none => none
    | some tier =>
      some (some { maxSubscriptions := fieldAt bs at_ 1, tier := tier, bytes := slice bs (at_ + 2) len })

/-- What R202 asks of a context beyond its counts: max subscriptions 1..4, no two bindings with one serial, serials not 0, seats
1..999, stream IDs distinct and not 0. -/
def Context.acceptable (c : Context) : Bool :=
  c.record.all (fun r => decide (1 ≤ r.maxSubscriptions ∧ r.maxSubscriptions ≤ 4)) &&
    decide (c.bindings.map (·.serial)).Nodup &&
    c.bindings.all (fun b => b.serial != 0 && decide (1 ≤ b.seat ∧ b.seat ≤ 999)) &&
    decide c.subscriptions.Nodup && c.subscriptions.all (· != 0)

/-- The context that some bytes carry, or none where R202 discards the frame. -/
def parseContext (bs : List Byte) : Option Context :=
  let nb := fieldAt bs 0 1
  let ns := fieldAt bs 1 1
  let nr := fieldAt bs 2 1
  if 4 < nb ∨ 4 < ns ∨ (nr ≠ 0 ∧ (nr < 4 ∨ 64 < nr)) ∨ bs.length ≠ 3 + 7 * nb + ns + (if nr = 0 then 0 else nr + 2) then none
  else
    match recordAt bs (3 + 7 * nb + ns) nr with
    | none => none
    | some record =>
      let c : Context :=
        { bindings := (List.range nb).map (fun i => bindingAt bs (3 + 7 * i)),
          subscriptions := (List.range ns).map (fun i => fieldAt bs (3 + 7 * nb + i) 1), record := record }
      if c.acceptable then some c else none

/-! ## Row frames (13.2) -/

/-- The kind of a message. -/
def Message.kind : Message → FrameKind
  | .roamClaim .. => .roamClaim
  | .roamGrant .. => .roamGrant
  | .roamDeny .. => .roamDeny
  | .roamReturn .. => .roamReturn
  | .clientMoved .. => .clientMoved
  | .contextReply .. => .contextReply
  | .tokenForward .. => .tokenForward
  | .tokenResult .. => .tokenResult
  | .seatReleased .. => .seatReleased
  | .authorityQuery .. => .authorityQuery
  | .authorityAnswer .. => .authorityAnswer
  | .presence .. => .presence
  | .load .. => .load
  | .streamWant .. => .streamWant
  | .harvest .. => .harvest
  | .notice .. => .notice
  | .segment .. => .segment
  | .streamAnnounce .. => .streamAnnounce
  | .harvestRequest => .harvestRequest
  | .matchState .. => .matchState
  | .blockReset .. => .blockReset

/-- A payload length that R202 gives the kind. -/
def FrameKind.payloadLengthOk (k : FrameKind) (n : Nat) : Bool :=
  match k with
  | .roamClaim => n == 8
  | .roamGrant => decide (9 ≤ n ∧ n ≤ 107)
  | .roamDeny => n == 9
  | .roamReturn => n == 6
  | .clientMoved => n == 7
  | .contextReply => n == 7 || decide (10 ≤ n ∧ n ≤ 108)
  | .tokenForward => n == 18
  | .tokenResult => n == 13
  | .seatReleased => n == 12
  | .authorityQuery => n == 25
  | .authorityAnswer => n == 3
  | .presence => n == 6
  | .load => n == 3
  | .streamWant => decide (1 ≤ n ∧ n ≤ 9)
  | .harvest => n == 75
  | .notice => n == 3
  | .segment => decide (5 ≤ n ∧ n ≤ 1480)
  | .streamAnnounce => n == 4
  | .harvestRequest => n == 0
  | .matchState => n == 1
  | .blockReset => n == 1

/-- A snapshot's 75 bytes: 24 values of 3 bytes, then the saturated flags of counters 0..23 from bit 0 of the first byte. -/
def snapshotBytes (v : Vector Counter 24) : List Byte :=
  v.toList.flatMap (fun c => beBytes 3 c.value) ++
    [flagsByte ((v.toList.take 8).map (·.saturated)), flagsByte (((v.toList.drop 8).take 8).map (·.saturated)),
      flagsByte ((v.toList.drop 16).map (·.saturated))]

/-- The snapshot that 75 bytes carry; the top 4 bits of each value are padding and not read (R201). -/
def snapshotAt (bs : List Byte) : Vector Counter 24 :=
  Vector.ofFn fun i =>
    { value := fieldAt bs (3 * i.val) 3 % 2 ^ 20, saturated := flagAt bs (72 + i.val / 8) (i.val % 8) }

/-- A message's payload (R202). -/
def Message.payload : Message → List Byte
  | .roamClaim c n => clientBytes c ++ beBytes 2 n
  | .roamGrant c x => clientBytes c ++ x.bytes
  | .roamDeny c r n => clientBytes c ++ [enumByte DenyReason.table r] ++ beBytes 2 n
  | .roamReturn c => clientBytes c
  | .clientMoved c w => clientBytes c ++ [flagsByte [w]]
  | .contextReply c none => clientBytes c ++ [flagsByte [true]]
  | .contextReply c (some x) => clientBytes c ++ [flagsByte [false]] ++ x.bytes
  | .tokenForward c t => clientBytes c ++ t.bytes
  | .tokenResult c n seat code => clientBytes c ++ serialBytes n ++ beBytes 2 seat ++ [enumByte TokenCode.table code]
  | .seatReleased c n seat => clientBytes c ++ serialBytes n ++ beBytes 2 seat
  | .authorityQuery seat r inc ch => beBytes 2 seat ++ [enumByte ContestReason.table r] ++ inc.bytes ++ ch.bytes
  | .authorityAnswer seat v => beBytes 2 seat ++ [enumByte Verdict.table v]
  | .presence cls none d a => [enumByte PeerClass.table cls, flagsByte [false, d, a]] ++ beBytes 2 0 ++ beBytes 2 0
  | .presence cls (some b) d a =>
    [enumByte PeerClass.table cls, flagsByte [true, d, a]] ++ beBytes 2 b.first ++ beBytes 2 b.last
  | .load u e l => beBytes 1 u ++ beBytes 1 e ++ beBytes 1 l
  | .streamWant ids => beBytes 1 ids.length ++ ids.flatMap (beBytes 1)
  | .harvest v => snapshotBytes v
  | .notice k subject => [enumByte NoticeKind.table k] ++ beBytes 2 subject
  | .segment stream seq len data => beBytes 1 stream ++ beBytes 2 seq.toNat ++ beBytes 2 len ++ data
  | .streamAnnounce stream tier fill st =>
    beBytes 1 stream ++ [enumByte Tier.table tier, enumByte Fill.table fill, enumByte StreamStatus.table st]
  | .harvestRequest => []
  | .matchState m => [enumByte MatchState.table m]
  | .blockReset t => [enumByte ResetTarget.table t]

/-- The message that a payload of a kind carries, or none where R201 or R202 has the consuming block discard the frame.
Padding is not read (R201). -/
def parseMessage (k : FrameKind) (p : List Byte) : Option Message :=
  match k with
  | .roamClaim => some (.roamClaim (clientAt p 0) (fieldAt p 6 2))
  | .roamGrant => (parseContext (p.drop 6)).map (.roamGrant (clientAt p 0))
  | .roamDeny => (enumAt DenyReason.table p 6).map (fun r => .roamDeny (clientAt p 0) r (fieldAt p 7 2))
  | .roamReturn => some (.roamReturn (clientAt p 0))
  | .clientMoved => some (.clientMoved (clientAt p 0) (flagAt p 6 0))
  | .contextReply =>
    if flagAt p 6 0 then (if p.length = 7 then some (.contextReply (clientAt p 0) none) else none)
    else if p.length = 7 then none
    else (parseContext (p.drop 7)).map (fun x => .contextReply (clientAt p 0) (some x))
  | .tokenForward => some (.tokenForward (clientAt p 0) (tokenAt p 6))
  | .tokenResult =>
    (enumAt TokenCode.table p 12).map (.tokenResult (clientAt p 0) (serialAt p 6) (fieldAt p 10 2))
  | .seatReleased => some (.seatReleased (clientAt p 0) (serialAt p 6) (fieldAt p 10 2))
  | .authorityQuery =>
    (enumAt ContestReason.table p 2).map (fun r => .authorityQuery (fieldAt p 0 2) r (holderAt p 3) (holderAt p 14))
  | .authorityAnswer => (enumAt Verdict.table p 2).map (.authorityAnswer (fieldAt p 0 2))
  | .presence =>
    (enumAt PeerClass.table p 0).map fun cls =>
      .presence cls (if flagAt p 1 0 then some { first := fieldAt p 2 2, last := fieldAt p 4 2 } else none)
        (flagAt p 1 1) (flagAt p 1 2)
  | .load => some (.load (fieldAt p 0 1) (fieldAt p 1 1) (fieldAt p 2 1))
  | .streamWant =>
    if p.length = fieldAt p 0 1 + 1 ∧ fieldAt p 0 1 ≤ 8 then
      some (.streamWant ((List.range (fieldAt p 0 1)).map (fun i => fieldAt p (1 + i) 1)))
    else none
  | .harvest => some (.harvest (snapshotAt p))
  | .notice => (enumAt NoticeKind.table p 0).map (fun k => .notice k (fieldAt p 1 2))
  | .segment => some (.segment (fieldAt p 0 1) (BitVec.ofNat 16 (fieldAt p 1 2)) (fieldAt p 3 2) (p.drop 5))
  | .streamAnnounce =>
    match enumAt Tier.table p 1, enumAt Fill.table p 2, enumAt StreamStatus.table p 3 with
    | some t, some f, some st => some (.streamAnnounce (fieldAt p 0 1) t f st)
    | _, _, _ => none
  | .harvestRequest => some .harvestRequest
  | .matchState => (enumAt MatchState.table p 0).map .matchState
  | .blockReset => (enumAt ResetTarget.table p 0).map .blockReset

/-- A row frame's five header bytes (13.2). -/
def headerBytes (destination source : Station) (k : FrameKind) (payloadLength : Nat) : List Byte :=
  beBytes 1 destination ++ beBytes 1 source ++ [enumByte FrameKind.table k] ++ beBytes 2 payloadLength

/-- A whole row frame: header, payload and check (R155, R156). -/
def frameBytes (destination source : Station) (m : Message) : List Byte :=
  let body := headerBytes destination source m.kind m.payload.length ++ m.payload
  body ++ crc32Bytes body

/-- The length counters' bucket of a frame by its payload length (R183). -/
def lengthBucket (payloadLength : Nat) : Fin 4 :=
  if payloadLength ≤ 54 then 0 else if payloadLength ≤ 246 then 1 else if payloadLength ≤ 1014 then 2 else 3

/-- What the line's bytes are judged to be (R164, R165). -/
inductive Reception where
  /-- Fewer than 5 bytes: a runt (R164). -/
  | runt
  /-- A bad frame (R165). -/
  | bad
  /-- A frame that passes R165. -/
  | good (destination source : Station) (kind : FrameKind) (payload : List Byte)
  deriving DecidableEq, Repr

/-- The judgement of R164 and R165 on the bytes of one frame. -/
def judgeFrame (bs : List Byte) : Reception :=
  if bs.length < 5 then .runt
  else
    let len := fieldAt bs 3 2
    if len > 1480 ∨ bs.length ≠ 9 + len then .bad
    else if bs.drop (5 + len) ≠ crc32Bytes (bs.take (5 + len)) then .bad
    else
      match enumAt FrameKind.table bs 2 with
      | none => .bad
      | some k =>
        if k.payloadLengthOk len then .good (fieldAt bs 0 1) (fieldAt bs 1 1) k (slice bs 5 len) else .bad

/-! ## Radio records (13.5) -/

/-- The uplink record that some bytes carry, or none where R171 discards them at arrival. -/
def parseUplink (bs : List Byte) : Option UplinkRecord :=
  let make (body : UplinkBody) : Option UplinkRecord :=
    if clientAt bs 1 = 0 ∨ 31 < fieldAt bs 8 1 then none
    else some { client := clientAt bs 1, rssi := signedAt bs 7, cell := fieldAt bs 8 1, body := body }
  match (bs.getD 0 0).toNat, bs.length with
  | 1, 9 => make .heard
  | 2, 9 => make .joinRequest
  | 3, 9 => make .leave
  | 4, 15 => make (.capsPiece (fieldAt bs 9 1) (flagAt bs 10 0) (slice bs 11 4))
  | 5, 11 => make (.subscribe (fieldAt bs 9 1) (flagAt bs 10 0))
  | 6, 21 => make (.token (tokenAt bs 9))
  | _, _ => none

/-- A downlink record's bytes. -/
def Downlink.bytes : Downlink → List Byte
  | .joinReply c code redirect =>
    beBytes 1 1 ++ clientBytes c ++ [enumByte JoinCode.table code] ++ beBytes 1 (redirect.getD 0)
  | .moveTo c station => beBytes 1 2 ++ clientBytes c ++ beBytes 1 station
  | .tokenReply c code seat => beBytes 1 3 ++ clientBytes c ++ [enumByte TokenCode.table code] ++ beBytes 2 seat
  | .subscribeReply c stream code group =>
    beBytes 1 4 ++ clientBytes c ++ beBytes 1 stream ++ [enumByte SubscribeCode.table code] ++ beBytes 1 (group.getD 0xFF)
  | .dropClient c => beBytes 1 5 ++ clientBytes c
  | .airSlot group stream seq units join rep data =>
    beBytes 1 6 ++ beBytes 1 group ++ beBytes 1 stream ++ beBytes 2 seq.toNat ++ beBytes 1 units ++ [flagsByte [join, rep]] ++
      beBytes 2 data.length ++ data

end Sys2Proof.Machine
end

