-- ==== Sys2Proof/Machine/Ops.lean ====
section
/-! DEFINITION. The operations every block uses: time, keyed lists, station parameters, counting (R184, R186), the choice of a
free order (log 9), and the hand-over of replies and air records to the Radio Port (R175 to R179). -/

namespace Sys2Proof.Machine

/-! ## One update per block -/

def State.setSl (s : State) (x : StartUp) : State := { s with sl := x }
def State.setAu (s : State) (x : Association) : State := { s with au := x }
def State.setSv (s : State) (x : SeatValidator) : State := { s with sv := x }
def State.setRu (s : State) (x : ReplayUnit) : State := { s with ru := x }
def State.setAnu (s : State) (x : Announcement) : State := { s with anu := x }
def State.setCb (s : State) (x : CounterBank) : State := { s with cb := x }
def State.setRbc (s : State) (x : RowBus) : State := { s with rbc := x }
def State.setRp (s : State) (x : RadioPort) : State := { s with rp := x }

/-! ## Time (log 1) -/

/-- The time of an event that comes `dt` ticks after the one before it. -/
def State.elapse (s : State) (dt : Time) : State := { s with now := s.now + dt }

/-- Ticks of 100 ns in a number of microseconds. -/
def micros (n : Nat) : Time := 10 * n

/-- Ticks in a number of milliseconds. -/
def millis (n : Nat) : Time := 10000 * n

/-- Ticks in a number of seconds. -/
def seconds (n : Nat) : Time := 10000000 * n

/-- A deadline has been reached. -/
def State.reached (s : State) (deadline : Time) : Bool := decide (deadline ≤ s.now)

/-! ## Keyed lists (R2, R3, R102, R139), kept in rising order of their keys (log 21) -/

/-- Insert an item, or put it in the place of the one with its key. -/
def putBy {α : Type} (key : α → Nat) (x : α) : List α → List α
  | [] => [x]
  | y :: ys =>
    if key x < key y then x :: y :: ys else if key x = key y then x :: ys else y :: putBy key x ys

/-- Put an item before the first one whose rank is not below its own. -/
def placeBy {α : Type} (rank : α → Nat) (x : α) : List α → List α
  | [] => [x]
  | y :: ys => if rank x ≤ rank y then x :: y :: ys else y :: placeBy rank x ys

/-- Sort by a rank, keeping the order of equal ranks. -/
def sortBy {α : Type} (rank : α → Nat) : List α → List α
  | [] => []
  | x :: xs => placeBy rank x (sortBy rank xs)

/-- The item with the lowest rank; the first of several. -/
def minBy {α : Type} (rank : α → Nat) : List α → Option α
  | [] => none
  | x :: xs =>
    match minBy rank xs with
    | none => some x
    | some y => if rank x ≤ rank y then some x else some y

/-- DESIGN CHOICE (log 9): the clients in an order nothing is known of, one free draw for each use. -/
def State.freeOrder (s : State) (clients : List ClientId) : List ClientId :=
  sortBy (Config.replyRank s.freeCount) clients

/-- The next free draw. -/
def State.drawn (s : State) : State := { s with freeCount := s.freeCount + 1 }

/-! ## Station parameters (R195, R196) -/

/-- The defaults of R195, and the defaulted configuration of R196: no codes and no seats. -/
def Params.default : Params :=
  { codes := none, block := none, limit := 40, joinFloor := -85, presenceThreshold := -65, margin := 64, claimFloor := 450,
    periodMs := 100, presenceMode := .bestEffort, loadMode := .bestEffort, slots := 16, slotMs := 5, mask := 0,
    holdSeconds := 120, awaySeconds := 300 }

/-- The station parameters; while STARTING there are none, and the defaults stand for them (log 26). -/
def State.par (s : State) : Params := s.sl.params.getD Params.default

/-- The announcement period P in ticks (R146). -/
def State.period (s : State) : Time := millis s.par.periodMs

/-- The node is RUNNING. -/
def State.isRunning (s : State) : Bool := s.sl.nodeState == .running

/-- The node is STARTING. -/
def State.isStarting (s : State) : Bool := s.sl.nodeState == .starting

/-- A station is the node's own address (R155); a SILENT node has none. -/
def State.isOwn (s : State) (a : Station) : Bool := s.sl.ownAddress == some a

/-- The own address as a number; the rules that use it act only where there is one. -/
def State.own (s : State) : Station := s.sl.ownAddress.getD 0

/-! ## Counting (R182, R184, R186) -/

/-- A counter's index (section 11.2). -/
def CounterId.index : CounterId → Fin 24
  | .rx0 => 0
  | .rx1 => 1
  | .rx2 => 2
  | .rx3 => 3
  | .tx0 => 4
  | .tx1 => 5
  | .tx2 => 6
  | .tx3 => 7
  | .collisions => 8
  | .txLost => 9
  | .rxOverrun => 10
  | .rxBad => 11
  | .radioDrop => 12
  | .replyLost => 13
  | .joinsAccepted => 14
  | .joinsRefused => 15
  | .roamsIn => 16
  | .roamsOut => 17
  | .tokensAccepted => 18
  | .tokensRefused => 19
  | .contests => 20
  | .segmentsAired => 21
  | .underruns => 22
  | .segmentsDiscarded => 23

/-- The counter of received frames of a length bucket (R168, R183). -/
def rxLengthCounter (b : Fin 4) : CounterId :=
  match b with
  | 0 => .rx0
  | 1 => .rx1
  | 2 => .rx2
  | 3 => .rx3

/-- The counter of sent frames of a length bucket (R162, R183). -/
def txLengthCounter (b : Fin 4) : CounterId :=
  match b with
  | 0 => .tx0
  | 1 => .tx1
  | 2 => .tx2
  | 3 => .tx3

/-- The ceiling of a counter (R182). -/
def counterMax : Nat := 1048575

/-- The value at which an increment arms a harvest (R186). -/
def harvestThreshold : Nat := 786432

/-- A counter's current content. -/
def State.counter (s : State) (k : CounterId) : Counter := s.cb.counters.get k.index

/-- The counter is masked (R185). -/
def State.masked (s : State) (k : CounterId) : Bool := s.par.mask.getLsbD k.index

/-- An increment's effect on one counter (R184). -/
def Counter.bump (c : Counter) : Counter :=
  if c.value < counterMax then { c with value := c.value + 1 } else { c with saturated := true }

/-- Arming the HARVEST buffer (R147, R186, R187). -/
def State.armHarvest (s : State) : State := s.setAnu { s.anu with harvest := { s.anu.harvest with armed := true } }

/-- "Counts X": an increment of an unmasked counter, with the threshold test (R184, R186). -/
def State.count (s : State) (k : CounterId) : State :=
  if s.masked k then s
  else
    let c := (s.counter k).bump
    let s := s.setCb { s.cb with counters := s.cb.counters.set k.index.val c k.index.isLt }
    if harvestThreshold ≤ c.value then s.armHarvest else s

/-! ## The radio link's downlink side (R175 to R179) -/

/-- Places of the downlink queue (R175). -/
def downlinkPlaces : Nat := 16

/-- Places of the held-reply list (R176). -/
def heldPlaces : Nat := 8

/-- While IDLE, with a record queued and the radio unit ready, the transfer of the oldest record starts (R175). -/
def State.startTransfer (s : State) : State :=
  match s.rp.transfer, s.rp.ready, s.rp.downlink with
  | .idle, true, r :: _ => s.setRp { s.rp with transfer := .sending r.bytes }
  | _, _, _ => s

/-- A record takes the newest place of the downlink queue. -/
def State.enqueueDownlink (s : State) (r : Downlink) : State :=
  (s.setRp { s.rp with downlink := s.rp.downlink ++ [r] }).startTransfer

/-- The downlink queue has a free place (R179). -/
def State.downlinkRoom (s : State) : Bool := decide (s.rp.downlink.length < downlinkPlaces)

/-- A reply is handed to the Radio Port (R177). -/
def State.handReply (s : State) (r : Downlink) : State :=
  if s.rp.held.isEmpty && s.downlinkRoom then s.enqueueDownlink r
  else if s.rp.held.length < heldPlaces then s.setRp { s.rp with held := s.rp.held ++ [r] }
  else s.count .replyLost

/-! ## Small readings shared by the blocks -/

/-- The sample value r of a reported RSSI (R22). -/
def clampRssi (rssi : Int) : Int := max (-100) (min (-20) rssi)

/-- S after the first sample (R23). -/
def firstSample (rssi : Int) : Int := 4 * clampRssi rssi

/-- S after a later sample: S + floor((4r − S) ÷ 4) (R24). -/
def smooth (signal rssi : Int) : Int := signal + (4 * clampRssi rssi - signal) / 4

/-- A node's station address, 1..29 (R155). -/
def isNodeStation (a : Station) : Bool := decide (1 ≤ a ∧ a ≤ 29)

/-- A place on the row bus, 1..30 (00_scope.md, Terms). Other sources name no station (log 10). -/
def isStation (a : Station) : Bool := decide (1 ≤ a ∧ a ≤ 30)

/-- A seat lies within a block. -/
def SeatBlock.contains (b : SeatBlock) (n : Seat) : Bool := decide (b.first ≤ n ∧ n ≤ b.last)

end Sys2Proof.Machine
end

