-- ==== Sys2Proof/Machine/Replay.lean ====
section
/-! DEFINITION. Operations on stored scores (chapter 2), on streams and their counts (chapter 6), and on the replay cycle
(chapter 7). No operation here hands a row frame over. -/

namespace Sys2Proof.Machine

/-! ## The serving score (R28 to R33) -/

/-- The serving score Sig − P + H + 250, with 0 for any result below 0 (R28). -/
def servingScore (signal : Int) (occupancy entries : Nat) (home : Bool) : Nat :=
  (2 * (signal + 400) - ((3 * occupancy + 4 * (entries - 32) : Nat) : Int) + (if home then 120 else 0) + 250).toNat

/-- A seat's state binds the client for the home term: HELD, OCCUPIED or AWAY (R31). -/
def SeatState.homeFor (st : SeatState) (c : ClientId) : Bool :=
  match st with
  | .bound _ h => h.client == c
  | _ => false

/-- The seat table gives the client a home term (R31). -/
def State.home (s : State) (c : ClientId) : Bool := s.sv.seats.any (fun r => r.state.homeFor c)

/-- The entry's score as the terms stand now (R28, R29). -/
def State.scoreOf (s : State) (e : ClientEntry) : Nat :=
  servingScore e.signal s.ru.occupancy s.au.clients.length (s.home e.id)

/-- The score of a client held as a sighting: E counts the would-be entry (R29). -/
def State.scoreOfSighting (s : State) (g : Sighting) : Nat :=
  servingScore g.signal s.ru.occupancy (s.au.clients.length + 1) (s.home g.id)

/-- The client's entry, if it has one (R2). -/
def State.findEntry (s : State) (c : ClientId) : Option ClientEntry := s.au.clients.find? (fun e => e.id == c)

/-- Change the client's entry. -/
def State.updateEntry (s : State) (c : ClientId) (f : ClientEntry → ClientEntry) : State :=
  s.setAu { s.au with clients := s.au.clients.map (fun e => if e.id == c then f e else e) }

/-- Recompute and store one entry's score (R32, R34). -/
def State.rescore (s : State) (c : ClientId) : State := s.updateEntry c (fun e => { e with score := s.scoreOf e })

/-- The Replay Unit hands U over: the RE recomputes every stored score (R33), and the LOAD buffer takes it (R133). -/
def State.handOverU (s : State) (u : Nat) : State :=
  let s := s.setRu { s.ru with occupancy := u }
  s.setAu { s.au with clients := s.au.clients.map (fun e => { e with score := s.scoreOf e }) }

/-! ## The catalogue (R102 to R113) -/

/-- Places of the catalogue (R102). -/
def cataloguePlaces : Nat := 16

/-- The catalogue entry of a stream. -/
def State.findStream (s : State) (id : StreamId) : Option StreamEntry := s.ru.catalogue.find? (fun e => e.id == id)

/-- Change a stream's entry. -/
def State.updateStream (s : State) (id : StreamId) (f : StreamEntry → StreamEntry) : State :=
  s.setRu { s.ru with catalogue := s.ru.catalogue.map (fun e => if e.id == id then f e else e) }

/-- Delete a stream's entry; its places in the active list stay and name no entry any more (R106, R123). -/
def State.deleteStream (s : State) (id : StreamId) : State :=
  s.setRu
    { s.ru with
      catalogue := s.ru.catalogue.filter (fun e => e.id != id),
      cycle := { s.ru.cycle with active := s.ru.cycle.active.map (fun r => if r == some id then none else r) } }

/-- A stream in the catalogue for a subscription request (R102). -/
def State.subscribable (s : State) (id : StreamId) : Option StreamEntry :=
  (s.findStream id).filter (fun e => !e.ended)

/-- An air group is held by some stream: the air-group map (R111). -/
def State.groupHeld (s : State) (g : Nat) : Bool := s.ru.catalogue.any (fun e => e.airGroup == some g)

/-- The lowest free air group (R111). -/
def State.freeGroup (s : State) : Option Nat := (List.range 8).find? (fun g => !s.groupHeld g)

/-- A stream cleared to DORMANT: air group and segments freed, next unset, run 0, join-marker clear (R109, R110, R118). -/
def StreamEntry.cleared (e : StreamEntry) : StreamEntry :=
  { e with activity := .dormant, airGroup := none, next := none, underrunRun := 0, joinMarker := false, aired := none,
           unaired := [] }

/-- A segment's air units: ceiling of its length ÷ 176 (R115). -/
def Segment.units (g : Segment) : Nat := (g.data.length + 175) / 176

/-! ## Slots (R124 to R130) -/

/-- The segment due: the unaired one whose sequence equals next (R125). -/
def StreamEntry.due (e : StreamEntry) : Option Segment :=
  match e.next with
  | none => none
  | some q => e.unaired.find? (fun g => g.seq == q)

/-- The stream after an airing of segment `g` (R126, steps 2 to 5). -/
def StreamEntry.afterAiring (g : Segment) (e : StreamEntry) : StreamEntry :=
  { e with joinMarker := false, aired := some g, unaired := e.unaired.filter (fun x => x.seq != g.seq),
           next := some (g.seq + 1), underrunRun := 0 }

/-- The stream after an underrun, with the resync when the run stands at 2 (R130). -/
def StreamEntry.afterUnderrun (e : StreamEntry) : StreamEntry :=
  let run := min 2 (e.underrunRun + 1)
  match e.unaired with
  | g :: _ => if run = 2 then { e with next := some g.seq, underrunRun := 0 } else { e with underrunRun := run }
  | [] => { e with underrunRun := run }

/-- Air units are handed to the radio unit in the current cycle (R121). -/
def State.addUnits (s : State) (n : Nat) : State :=
  s.setRu { s.ru with cycle := { s.ru.cycle with units := s.ru.cycle.units + n } }

/-- Airing a slot (R126). -/
def State.airSegment (s : State) (e : StreamEntry) (g : Segment) : State :=
  let s := s.enqueueDownlink (.airSlot (e.airGroup.getD 0) e.id g.seq g.units e.joinMarker false g.data)
  let s := s.updateStream e.id (StreamEntry.afterAiring g)
  let s := s.count .segmentsAired
  s.addUnits g.units

/-- What an underrun slot carries, by the fill mode (R129). -/
def State.fillSlot (s : State) (e : StreamEntry) : State :=
  match e.fill, e.aired with
  | .repeat, some g =>
    if s.downlinkRoom then
      (s.enqueueDownlink (.airSlot (e.airGroup.getD 0) e.id g.seq g.units false true g.data)).addUnits g.units
    else s
  | _, _ => s

/-- An underrun (R128): UNDERRUNS, then the fill, then the run. -/
def State.underrun (s : State) (e : StreamEntry) : State :=
  let s := s.count .underruns
  let s := s.fillSlot e
  s.updateStream e.id StreamEntry.afterUnderrun

/-- The catalogue entry that slot `k` belongs to, if it has not been deleted (R124). -/
def State.slotStream (s : State) (k : Nat) : Option StreamEntry :=
  match s.ru.cycle.active[(s.ru.cycle.offset + k) % s.ru.cycle.active.length]? with
  | some (some id) => s.findStream id
  | _ => none

/-- The start of slot `k` (R125). -/
def State.startSlot (s : State) (k : Nat) : State :=
  let s := s.setRu { s.ru with cycle := { s.ru.cycle with slot := some k } }
  match s.slotStream k with
  | none => s
  | some e =>
    if e.activity = .active then
      match e.due with
      | some g => if s.downlinkRoom then s.airSegment e g else s.underrun e
      | none => s.underrun e
    else s

/-! ## The cycle (R121 to R123, R132 to R135) -/

/-- At a cycle start every JOINING stream becomes ACTIVE with its join-marker set (R110). -/
def StreamEntry.activated (e : StreamEntry) : StreamEntry :=
  if e.activity = .joining then { e with activity := .active, joinMarker := true } else e

/-- The IDs of the streams that satisfy `p`, in order of air group, lowest first. -/
def State.streamsByGroup (s : State) (p : StreamEntry → Bool) : List StreamId :=
  (sortBy (fun e => e.airGroup.getD 0) (s.ru.catalogue.filter p)).map (·.id)

/-- A cycle start (R123), the rotation offset given by the number A of active streams. -/
def State.startCycle (s : State) (offset : Nat → Nat) : State :=
  let s := s.setRu { s.ru with catalogue := s.ru.catalogue.map StreamEntry.activated }
  let active := s.streamsByGroup (fun e => e.activity == .active)
  let s := s.setRu
    { s.ru with
      cycle := { running := true, offset := offset active.length, active := active.map some, slot := none, units := 0,
                 startedAt := s.now } }
  s.startSlot 0

/-- A cycle start from STOPPED: rotation offset 0 (R122). -/
def State.startCycleFromStopped (s : State) : State := s.startCycle (fun _ => 0)

/-- The cycle start that follows a cycle end: the offset advances by 1 mod A (R123). -/
def State.startNextCycle (s : State) : State := s.startCycle (fun a => (s.ru.cycle.offset + 1) % a)

/-- The occupancy of a cycle: floor((units × 100 + 4N) ÷ 8N) (R132). -/
def occupancyOf (units slots : Nat) : Nat := (units * 100 + 4 * slots) / (8 * slots)

/-- Every LEAVING stream is cleared: DORMANT, or deleted when ended (R110, R119). -/
def clearLeaving (catalogue : List StreamEntry) : List StreamEntry :=
  catalogue.filterMap fun e =>
    if e.activity = .leaving then (if e.ended then none else some e.cleared) else some e

/-- The want list: the JOINING and ACTIVE streams in order of air group (R114). -/
def State.wants (s : State) : List StreamId := s.streamsByGroup (fun e => e.activity == .joining || e.activity == .active)

/-- The want list is compared with the STREAM_WANT buffer, which is armed when they differ (R114). -/
def State.compareWants (s : State) : State :=
  if s.wants = s.anu.wantList then s
  else s.setAnu { s.anu with wantList := s.wants, streamWant := { s.anu.streamWant with armed := true } }

/-- The cycle stops: list empty, slot absent, units 0, and U = 0 is handed over (R134). -/
def State.stopCycle (s : State) : State :=
  (s.setRu { s.ru with cycle := { s.ru.cycle with running := false, active := [], slot := none, units := 0 } }).handOverU 0

/-- The cycle end's six steps (R133). -/
def State.endCycle (s : State) : State :=
  let s := s.handOverU (occupancyOf s.ru.cycle.units s.par.slots)
  let s := s.setRu { s.ru with catalogue := clearLeaving s.ru.catalogue }
  let s := s.compareWants
  if s.wants.isEmpty then s.stopCycle else s.startNextCycle

/-! ## Subscriber counts (R18, R107 to R109, R113) -/

/-- A DORMANT stream whose count rises from 0 (R108). -/
def StreamEntry.joined (group : Option Nat) (e : StreamEntry) : StreamEntry :=
  { e with subscribers := 1, activity := .joining, airGroup := group, next := none, underrunRun := 0, joinMarker := false }

/-- The count of a stream rises by one (R18), with the change of activity at a rise from 0 (R108, R122). -/
def State.raiseCount (s : State) (id : StreamId) : State :=
  match s.findStream id with
  | none => s
  | some e =>
    if e.subscribers = 0 ∧ e.activity = .dormant then
      let s := s.updateStream id (StreamEntry.joined s.freeGroup)
      if s.ru.cycle.running then s else s.startCycleFromStopped
    else if e.subscribers = 0 ∧ e.activity = .leaving then
      s.updateStream id (fun e => { e with subscribers := 1, activity := .active })
    else s.updateStream id (fun e => { e with subscribers := e.subscribers + 1 })

/-- A stream whose count falls by one, with the change of activity at a fall to 0 (R109, R127). -/
def StreamEntry.lowered (e : StreamEntry) : StreamEntry :=
  let e := { e with subscribers := e.subscribers - 1 }
  if e.subscribers = 0 then
    match e.activity with
    | .joining => e.cleared
    | .active => { e with activity := .leaving, joinMarker := false }
    | _ => e
  else e

/-- The count of a stream falls by one (R18). -/
def State.lowerCount (s : State) (id : StreamId) : State := s.updateStream id StreamEntry.lowered

end Sys2Proof.Machine
end

