-- ==== Sys2Proof/Machine/Clients.lean ====
section
/-! DEFINITION. Operations on the client table and the sighting list (chapter 1) that hand no row frame over: creating and
removing entries, sightings, bindings, capability records, subscriptions, contexts. -/

namespace Sys2Proof.Machine

/-! ## The client table (R1, R2, R13) -/

/-- A fresh entry's fields (R1). -/
def ClientEntry.fresh (id : ClientId) (state : EntryState) (signal : Int) (sampled : Bool) (lastHeard : Time) : ClientEntry :=
  { id := id, state := state, signal := signal, sampled := sampled, lastHeard := lastHeard, score := 0, bindings := [],
    subscriptions := [], record := none, assemblyNext := 0, assemblyBytes := [], holdDown := none, contextWait := none }

/-- The streams of such an entry are counted (R18). -/
def EntryState.counted (st : EntryState) : Bool :=
  match st with
  | .associated | .roamOut .. => true
  | .reserved .. | .roamIn .. => false

/-- The client has an entry. -/
def State.hasEntry (s : State) (c : ClientId) : Bool := (s.findEntry c).isSome

/-- The client's sighting, if it has one. -/
def State.findSighting (s : State) (c : ClientId) : Option Sighting := s.au.sightings.find? (fun g => g.id == c)

/-- The client's sighting is removed (R2, R5). -/
def State.eraseSighting (s : State) (c : ClientId) : State :=
  s.setAu { s.au with sightings := s.au.sightings.filter (fun g => g.id != c) }

/-- Change the client's sighting. -/
def State.updateSighting (s : State) (c : ClientId) (f : Sighting → Sighting) : State :=
  s.setAu { s.au with sightings := s.au.sightings.map (fun g => if g.id == c then f g else g) }

/-- An entry is created: the client's sighting is removed first (R2), and the RE stores the entry's score (R32). -/
def State.createEntry (s : State) (e : ClientEntry) : State :=
  let s := s.eraseSighting e.id
  let s := s.setAu { s.au with clients := putBy (fun x => x.id.toNat) e s.au.clients }
  s.rescore e.id

/-- An entry is removed, for whatever cause (R13): its counted streams are released. -/
def State.removeEntry (s : State) (c : ClientId) : State :=
  match s.findEntry c with
  | none => s
  | some e =>
    let s := s.setAu { s.au with clients := s.au.clients.filter (fun x => x.id != c) }
    if e.state.counted then e.subscriptions.foldl State.lowerCount s else s

/-- An entry is removed and its client is sent a DROP_CLIENT (R11, R12). -/
def State.dropEntry (s : State) (c : ClientId) : State := (s.removeEntry c).handReply (.dropClient c)

/-! ## Inactivity (R12) -/

/-- The inactivity deadline: last heard plus 60 s, or 180 s with bindings (R12). -/
def ClientEntry.inactivityDeadline (e : ClientEntry) : Time :=
  e.lastHeard + (if e.bindings.isEmpty then seconds 60 else seconds 180)

/-- The entry's client has been unheard for its inactivity time (R12). -/
def State.inactive (s : State) (e : ClientEntry) : Bool := e.state.counted && s.reached e.inactivityDeadline

/-- The client's entry is removed for inactivity if its deadline has been reached (R12). -/
def State.removeIfInactive (s : State) (c : ClientId) : State :=
  match s.findEntry c with
  | some e => if s.inactive e then s.dropEntry c else s
  | none => s

/-! ## The sighting list (R3, R4) -/

/-- Places of the sighting list (R3). -/
def sightingPlaces : Nat := 32

/-- A sighting's rank for replacement: the earliest last-heard time, then the lower client ID (R4). -/
def Sighting.replacementRank (g : Sighting) : Nat := g.lastHeard * 2 ^ 48 + g.id.toNat

/-- Insertion into the sighting list (R4): a free place, else the place of the oldest SEEN sighting, else not recorded. -/
def State.insertSighting (s : State) (g : Sighting) : State :=
  let put (l : List Sighting) : State := s.setAu { s.au with sightings := putBy (fun x => x.id.toNat) g l }
  if s.au.sightings.length < sightingPlaces then put s.au.sightings
  else
    match minBy Sighting.replacementRank (s.au.sightings.filter (fun x => x.status == .seen)) with
    | some old => put (s.au.sightings.filter (fun x => x.id != old.id))
    | none => s

/-- The 10 s removal time of a sighting updated now (R5). -/
def State.sightingRemoval (s : State) : Time := s.now + seconds 10

/-- A reservation ends without a grant: the entry is removed and a BACKOFF sighting made (R3, R48, R49). -/
def State.endReservation (s : State) (e : ClientEntry) (peer : Station) : State :=
  (s.removeEntry e.id).insertSighting
    { id := e.id, signal := e.signal, lastHeard := e.lastHeard, cell := peer, status := .backoff (s.now + seconds 5),
      removal := s.sightingRemoval }

/-! ## Bindings (R19, R20) -/

/-- Recording a binding in a list (R19): replace the one with its serial in its place, else append, dropping the oldest of 4. -/
def recordInList (bs : List Binding) (b : Binding) : List Binding :=
  if bs.any (fun x => x.serial == b.serial) then bs.map (fun x => if x.serial == b.serial then b else x)
  else (if 4 ≤ bs.length then bs.drop 1 else bs) ++ [b]

/-- The SV hands the AU a binding for a client (R19). -/
def State.recordBinding (s : State) (c : ClientId) (b : Binding) : State :=
  match s.findEntry c with
  | some e => if e.state.counted then s.updateEntry c (fun e => { e with bindings := recordInList e.bindings b }) else s
  | none => s

/-- A SEAT_RELEASED removes the binding it names, which moves the inactivity deadline at once (R20, R12). -/
def State.releaseBinding (s : State) (c : ClientId) (serial : Serial) (seat : Seat) : State :=
  match s.findEntry c with
  | some e =>
    let named (b : Binding) : Bool := b.serial == serial && b.seat == seat
    if e.bindings.any named then
      (s.updateEntry c (fun e => { e with bindings := e.bindings.filter (fun b => !named b) })).removeIfInactive c
    else s
  | none => s

/-! ## Subscriptions (R1, R16 to R18) -/

/-- The applicable max subscriptions: 1 without a valid record (R1). -/
def ClientEntry.maxSubscriptions (e : ClientEntry) : Nat := e.record.elim 1 (·.maxSubscriptions)

/-- The applicable replay tier: LOW without a valid record (R1). -/
def ClientEntry.tier (e : ClientEntry) : Tier := e.record.elim .low (·.tier)

/-- Steps 2 to 7 of R17 against an ASSOCIATED entry: the fresh application of a stream, with its one reply. -/
def State.applySubscription (s : State) (c : ClientId) (id : StreamId) : State :=
  match s.findEntry c with
  | none => s
  | some e =>
    let refuse (code : SubscribeCode) : State := s.handReply (.subscribeReply c id code none)
    match s.subscribable id with
    | none => refuse .unknownStream
    | some st =>
      if id ∈ e.subscriptions then s.handReply (.subscribeReply c id .ok st.airGroup)
      else if st.tier = .high ∧ e.tier = .low then refuse .tier
      else if e.maxSubscriptions ≤ e.subscriptions.length then refuse .limit
      else if st.activity = .dormant ∧ s.freeGroup = none then refuse .noAirGroup
      else
        let s := s.updateEntry c (fun e => { e with subscriptions := e.subscriptions ++ [id] })
        let s := s.raiseCount id
        s.handReply (.subscribeReply c id .ok ((s.findStream id).bind (·.airGroup)))

/-- A stream leaves a counted entry's list and the client is told why (R16, R106). -/
def State.withdrawStream (s : State) (c : ClientId) (code : SubscribeCode) (id : StreamId) : State :=
  let s := s.updateEntry c (fun e => { e with subscriptions := e.subscriptions.filter (fun x => x != id) })
  (s.handReply (.subscribeReply c id code none)).lowerCount id

/-! ## Capability records (R14 to R16) -/

/-- The record that an assembly's bytes decode to (R15). -/
def decodeRecord (bytes : List Byte) : CapRecord :=
  { maxSubscriptions := max 1 (min 4 (bytes.getD 0 0).toNat),
    tier := if bytes.getD 1 0 = 1 then .high else .low, bytes := bytes }

/-- The catalogue tier of a stream is HIGH (R16). -/
def State.isHigh (s : State) (id : StreamId) : Bool := (s.findStream id).any (fun e => e.tier == .high)

/-- Bringing the subscription list into line with a new record, in two passes (R16). -/
def State.trimSubscriptions (s : State) (c : ClientId) (maxSubscriptions : Nat) (tierFell : Bool) : State :=
  match s.findEntry c with
  | none => s
  | some e =>
    let s := (e.subscriptions.drop maxSubscriptions).reverse.foldl (fun s id => s.withdrawStream c .removed id) s
    if tierFell then
      ((e.subscriptions.take maxSubscriptions).filter s.isHigh).foldl (fun s id => s.withdrawStream c .removed id) s
    else s

/-- An assembly completes: its record becomes the in-use part (R15), and the list is trimmed (R16). -/
def State.completeRecord (s : State) (c : ClientId) (bytes : List Byte) : State :=
  match s.findEntry c with
  | none => s
  | some e =>
    let r := decodeRecord bytes
    let tierFell := e.record.any (fun old => old.tier == .high) && r.tier == .low
    let s := s.updateEntry c (fun e => { e with record := some r, assemblyNext := 0, assemblyBytes := [] })
    s.trimSubscriptions c r.maxSubscriptions tierFell

/-- The assembly part after a stored piece. -/
def ClientEntry.assembling (next : Nat) (bytes : List Byte) (e : ClientEntry) : ClientEntry :=
  { e with assemblyNext := next, assemblyBytes := bytes }

/-- A capability piece taken into an ASSOCIATED entry's assembly part (R14). -/
def State.takePiece (s : State) (e : ClientEntry) (index : Nat) (last : Bool) (data : List Byte) : State :=
  if index = 0 then
    if last then s.completeRecord e.id data else s.updateEntry e.id (ClientEntry.assembling 1 data)
  else if index = e.assemblyNext then
    if last then s.completeRecord e.id (e.assemblyBytes ++ data)
    else if index = 15 then s.updateEntry e.id (ClientEntry.assembling 0 [])
    else s.updateEntry e.id (ClientEntry.assembling (index + 1) (e.assemblyBytes ++ data))
  else s.updateEntry e.id (ClientEntry.assembling 0 [])

/-! ## Contexts (R37, R46, R59) -/

/-- An entry's context at this moment (R37). -/
def ClientEntry.context (e : ClientEntry) : Context :=
  { bindings := e.bindings, subscriptions := e.subscriptions, record := e.record }

/-- A context installed in an entry: lists and record become the context's (R46). -/
def ClientEntry.install (x : Context) (e : ClientEntry) : ClientEntry :=
  { e with bindings := x.bindings, subscriptions := x.subscriptions, record := x.record }

/-- Step 1 of the merge: bindings are appended up to 4, skipping serials already held (R59). -/
def mergeBindings (bs : List Binding) (more : List Binding) : List Binding :=
  more.foldl
    (fun acc b => if 4 ≤ acc.length ∨ acc.any (fun x => x.serial == b.serial) then acc else acc ++ [b]) bs

/-- Step 3 of the merge for one stream: applied afresh unless it is held already (R59). -/
def State.mergeStream (c : ClientId) (s : State) (id : StreamId) : State :=
  if (s.findEntry c).any (fun e => e.subscriptions.contains id) then s else s.applySubscription c id

/-- The context wait is made absent (R57, R59). -/
def State.endContextWait (s : State) (c : ClientId) : State := s.updateEntry c (fun e => { e with contextWait := none })

/-- The merge of a context into an entry that awaits it (R59). -/
def State.mergeContext (s : State) (c : ClientId) (x : Context) : State :=
  let s := s.updateEntry c fun e =>
    { e with bindings := mergeBindings e.bindings x.bindings, record := e.record.or x.record }
  let s := x.subscriptions.foldl (State.mergeStream c) s
  s.endContextWait c

/-- The entry is ASSOCIATED and its context wait names this station (R59). -/
def ClientEntry.awaits (e : ClientEntry) (station : Station) : Bool :=
  e.state == .associated && e.contextWait.any (fun w => w.oldStation == station)

end Sys2Proof.Machine
end

