-- ==== Sys2Proof/Machine/Delivery.lean ====
section
/-! DEFINITION. Telling a client the decision on its token (R69), the pending-token list (R69, R71), and the arming of notices
(R153): what the Row Bus Controller's reports and the seat rules both use. -/

namespace Sys2Proof.Machine

/-- A code that begins REFUSED_ (R65, R69). -/
def TokenCode.refused (code : TokenCode) : Bool :=
  match code with
  | .refusedForm | .refusedMatch | .refusedRow | .refusedCheck | .refusedBlocked | .refusedContest => true
  | .accepted | .held | .pending | .tryAgain | .matchClosed | .notOwner | .contestBusy => false

/-- A code that gives the client a binding (R19, R69). -/
def TokenCode.binds (code : TokenCode) : Bool := code == .accepted || code == .held

/-- A decision is delivered to a client: the TOKEN_REPLY, the binding and the counts (R69). -/
def State.deliver (s : State) (c : ClientId) (serial : Serial) (seat : Seat) (code : TokenCode) (owner : Station) : State :=
  let s := s.handReply (.tokenReply c code seat)
  if code.binds then
    (s.recordBinding c { seat := seat, serial := serial, owner := owner }).count .tokensAccepted
  else if code.refused then s.count .tokensRefused
  else s

/-- An unsolicited result is delivered to a client held ASSOCIATED or ROAM_OUT, and is discarded otherwise (R72, R98). -/
def State.deliverUnsolicited (s : State) (c : ClientId) (serial : Serial) (seat : Seat) (code : TokenCode) (owner : Station) :
    State :=
  match s.findEntry c with
  | some e => if e.state.counted then s.deliver c serial seat code owner else s
  | none => s

/-- The key of a pending-token entry: client ID and serial (R69). -/
def PendingToken.matches (p : PendingToken) (c : ClientId) (serial : Serial) : Bool :=
  p.client == c && p.token.serial == serial

/-- The pending-token entry with a key. -/
def State.findPending (s : State) (c : ClientId) (serial : Serial) : Option PendingToken :=
  s.sv.pendingTokens.find? (fun p => p.matches c serial)

/-- A pending-token entry is removed, with its timer (R69). -/
def State.erasePending (s : State) (c : ClientId) (serial : Serial) : State :=
  s.setSv { s.sv with pendingTokens := s.sv.pendingTokens.filter (fun p => !p.matches c serial) }

/-- TRY_AGAIN is delivered with the token's seat and the entry is removed (R71). -/
def State.settleTryAgain (s : State) (p : PendingToken) : State :=
  (s.deliver p.client p.token.serial p.token.seat .tryAgain s.own).erasePending p.client p.token.serial

/-- A loss report for a TOKEN_FORWARD that was sent to `destination` (R71, R159). -/
def State.forwardLost (s : State) (c : ClientId) (serial : Serial) (destination : Station) : State :=
  match s.findPending c serial with
  | some p => if p.destination = destination then s.settleTryAgain p else s
  | none => s

/-- Places of the notice list (R153). -/
def noticePlaces : Nat := 8

/-- A notice is armed (R153). -/
def State.armNotice (s : State) (kind : NoticeKind) (subject : Nat) : State :=
  let n : Notice := { kind := kind, subject := subject }
  if s.sl.nodeState = .silent ∨ n ∈ s.anu.notices ∨ noticePlaces ≤ s.anu.notices.length then s
  else s.setAnu { s.anu with notices := s.anu.notices ++ [n] }

end Sys2Proof.Machine
end

