-- ==== Sys2Proof/Machine/RowBus.lean ====
section
/-! DEFINITION. The Row Bus Controller (chapter 9): the hand-over of frames, the transmitter, reception, and the commands of the
line: FRAME_RECEIVED, LINE_BUSY, DEFERRAL_COMPLETE, TX_COLLISION, TX_COMPLETE. -/

namespace Sys2Proof.Machine

/-! ## Announcement buffers (R147) -/

/-- An announcement kind's buffer. -/
def Announcement.buffer (a : Announcement) (k : AnnounceKind) : Buffer :=
  match k with
  | .presence => a.presence
  | .load => a.load
  | .streamWant => a.streamWant
  | .harvest => a.harvest

/-- Replace an announcement kind's buffer. -/
def Announcement.setBuffer (a : Announcement) (k : AnnounceKind) (b : Buffer) : Announcement :=
  match k with
  | .presence => { a with presence := b }
  | .load => { a with load := b }
  | .streamWant => { a with streamWant := b }
  | .harvest => { a with harvest := b }

/-- Change an announcement kind's buffer. -/
def State.updateBuffer (s : State) (k : AnnounceKind) (f : Buffer → Buffer) : State :=
  s.setAnu (s.anu.setBuffer k (f (s.anu.buffer k)))

/-- Set or clear the queued flag (R147). -/
def State.setQueued (s : State) (k : AnnounceKind) (v : Bool) : State := s.updateBuffer k (fun b => { b with queued := v })

/-- The snapshot is set to 24 zeros with every flag clear (R189, R190, R191). -/
def State.zeroSnapshot (s : State) : State := s.setCb { s.cb with snapshot := CounterBank.zeros }

/-! ## Frames in the transmit queue (R155, R157) -/

/-- The kinds of class URGENT (R155). -/
def FrameKind.urgent (k : FrameKind) : Bool :=
  match k with
  | .roamClaim | .roamGrant | .roamDeny | .roamReturn | .clientMoved | .contextReply => true
  | .tokenForward | .tokenResult | .seatReleased | .authorityQuery | .authorityAnswer | .presence | .load | .streamWant
  | .harvest | .notice | .segment | .streamAnnounce | .harvestRequest | .matchState | .blockReset => false

/-- A queued frame's class is URGENT (R155); every announcement frame is NORMAL (R147). -/
def TxFrame.urgent (f : TxFrame) : Bool :=
  match f.body with
  | .message m => m.kind.urgent
  | .announcement _ => false

/-- The frame in hand, if there is one (R160). -/
def Transmitter.hand (t : Transmitter) : Option TxFrame :=
  match t with
  | .idle => none
  | .defer f _ _ => some f
  | .sending f _ _ => some f

/-- Every frame of the transmit queue: the one in hand first, then the waiting ones by class (R157). -/
def RowBus.frames (b : RowBus) : List TxFrame := b.tx.hand.toList ++ b.txUrgent ++ b.txNormal

/-- Frames in the transmit queue, the one in hand included (R157). -/
def State.txCount (s : State) : Nat := s.rbc.frames.length

/-- Places of the transmit queue (R157). -/
def txPlaces : Nat := 16

/-! ## Losses and refusals (R158, R159) -/

/-- What the RBC tells the handing block of an evicted or lost frame (R150, R159, R190, R71). -/
def State.reportLoss (s : State) (f : TxFrame) : State :=
  match f.body with
  | .announcement .harvest => (s.setQueued .harvest false).zeroSnapshot
  | .announcement k => s.setQueued k false
  | .message (.tokenForward c t) => s.forwardLost c t.serial f.destination
  | .message _ => s

/-- What the RBC tells the handing block of a frame refused at hand-over: an announcement's buffer keeps its flags here and the
ANU acts by R150; a TOKEN_FORWARD is reported lost (R159). -/
def State.reportRefusal (s : State) (f : TxFrame) : State :=
  match f.body with
  | .message (.tokenForward c t) => s.forwardLost c t.serial f.destination
  | _ => s

/-! ## Deferral and sending (R160 to R162) -/

/-- The deferral of a frame: class gap, position offset, and 8 µs for each collision (R161). -/
def deferral (urgent : Bool) (own : Station) (attempts : Nat) : Time :=
  micros ((if urgent then 4 else 12) + own % 8 + 8 * attempts)

/-- The deferral of the frame in hand has run in full with the line quiet throughout (R161): it runs from the later of entering
DEFER and the line's last going quiet. -/
def State.deferralRun (s : State) : Bool :=
  match s.rbc.tx, s.rbc.quietSince with
  | .defer f attempts since, some quiet => s.reached (max since quiet + deferral f.urgent s.own attempts)
  | _, _ => false

/-- The PRESENCE admitting flag (R151). -/
def State.admitting (s : State) : Bool := s.isRunning && decide (s.au.clients.length < s.par.limit)

/-- What a frame carries when an attempt starts (R148, R151, R152, R114, R188). -/
def State.content (s : State) (body : TxBody) : Message :=
  match body with
  | .message m => m
  | .announcement .presence => .presence .node s.par.block s.sl.defaulted s.admitting
  | .announcement .load => .load s.ru.occupancy s.au.clients.length s.par.limit
  | .announcement .streamWant => .streamWant s.anu.wantList
  | .announcement .harvest => .harvest s.cb.snapshot

/-- The transmitter goes from DEFER to SENDING and drives the frame onto the line (R162). -/
def State.startSending (s : State) : State :=
  match s.rbc.tx with
  | .defer f attempts _ =>
    s.setRbc
      { s.rbc with
        tx := .sending f attempts (frameBytes f.destination s.own (s.content f.body)), quietSince := none }
  | _ => s

/-- The first waiting frame, if there is one, is taken into hand with attempt count 0 and goes to DEFER (R160). -/
def State.nextFrame (s : State) : State :=
  match s.rbc.txUrgent, s.rbc.txNormal with
  | f :: rest, _ => s.setRbc { s.rbc with tx := .defer f 0 s.now, txUrgent := rest }
  | [], f :: rest => s.setRbc { s.rbc with tx := .defer f 0 s.now, txNormal := rest }
  | [], [] => s.setRbc { s.rbc with tx := .idle }

/-- A frame takes its place among the waiting frames of its class (R157). -/
def State.wait (s : State) (f : TxFrame) : State :=
  if f.urgent then s.setRbc { s.rbc with txUrgent := s.rbc.txUrgent ++ [f] }
  else s.setRbc { s.rbc with txNormal := s.rbc.txNormal ++ [f] }

/-- The report of an acceptance: an announcement's queued flag is set (R147, R159). -/
def State.reportAccepted (s : State) (f : TxFrame) : State :=
  match f.body with
  | .announcement k => s.setQueued k true
  | .message _ => s

/-- A frame is accepted into the transmit queue (R157, R160): into hand when IDLE; an URGENT frame takes the hand from a NORMAL one
in DEFER at attempt count 0, keeping the deferral's starting moment (R161); else it waits. -/
def State.acceptFrame (s : State) (f : TxFrame) : State :=
  let s := s.reportAccepted f
  match s.rbc.tx with
  | .idle => s.setRbc { s.rbc with tx := .defer f 0 s.now }
  | .defer hand 0 since =>
    if f.urgent && !hand.urgent then
      let s := s.setRbc { s.rbc with tx := .defer f 0 since, txNormal := hand :: s.rbc.txNormal }
      if s.deferralRun then s.startSending else s
    else s.wait f
  | _ => s.wait f

/-- The newest waiting NORMAL frame is evicted and counts TX_LOST (R158). -/
def State.evict (s : State) (old : TxFrame) : State :=
  let s := s.setRbc { s.rbc with txNormal := s.rbc.txNormal.dropLast }
  (s.count .txLost).reportLoss old

/-- A frame is handed over (R157, R158): the state after it, and whether it was accepted. A frame handed over while the node is
SILENT is discarded (R157); none is handed over while STARTING. -/
def State.handOver (s : State) (f : TxFrame) : State × Bool :=
  if s.sl.nodeState = .silent ∨ s.sl.nodeState = .starting then (s, false)
  else if s.txCount < txPlaces then (s.acceptFrame f, true)
  else
    match f.urgent, s.rbc.txNormal.getLast? with
    | true, some old => ((s.evict old).acceptFrame f, true)
    | _, _ => ((s.count .txLost).reportRefusal f, false)

/-- A message is queued to a station. -/
def State.send (s : State) (destination : Station) (m : Message) : State :=
  (s.handOver { destination := destination, body := .message m }).1

/-! ## The transmitter's commands (R161 to R163) -/

/-- The counters after the completion of a HARVEST: the snapshot subtracted, the flags cleared (R189). -/
def subtractSnapshot (counters snapshot : Vector Counter 24) : Vector Counter 24 :=
  Vector.zipWith (fun c v => { value := c.value - v.value, saturated := false }) counters snapshot

/-- What the RBC tells of a completion (R159): the queued flag is cleared, and for HARVEST the snapshot is subtracted (R189). -/
def State.reportCompletion (s : State) (f : TxFrame) : State :=
  match f.body with
  | .announcement .harvest =>
    let s := s.setQueued .harvest false
    (s.setCb { s.cb with counters := subtractSnapshot s.cb.counters s.cb.snapshot }).zeroSnapshot
  | .announcement k => s.setQueued k false
  | .message _ => s

/-- LINE_BUSY: a running deferral is abandoned; it starts again in full when the line next goes quiet (R161). -/
def State.onLineBusy (s : State) : State := s.setRbc { s.rbc with quietSince := none }

def execLineBusy (dt : Time) (s : State) : Host.Outcome State Fault Refusal := .next (s.elapse dt).onLineBusy

/-- DEFERRAL_COMPLETE: the deferral has run in full, and the transmitter goes to SENDING (R161, R162). -/
def execDeferralComplete (dt : Time) (s : State) : Host.Outcome State Fault Refusal :=
  let s := s.elapse dt
  .next (if s.deferralRun then s.startSending else s)

/-- TX_COMPLETE (R162): the frame leaves the queue, the completion is reported (R159) and counted by length, the next frame is
taken, and the line goes quiet. For a HARVEST the subtraction comes before the count (R189; log 13). -/
def execTxComplete (dt : Time) (s : State) : Host.Outcome State Fault Refusal :=
  let s := s.elapse dt
  .next <|
    match s.rbc.tx with
    | .sending f _ wire =>
      let s := (s.reportCompletion f).count (txLengthCounter (lengthBucket (wire.length - 9)))
      let s := s.setRbc { s.rbc with quietSince := some s.now }
      s.nextFrame
    | _ => s

/-- The collisions a frame can meet before it is lost (R163). -/
def lastAttempt : Nat := 6

/-- TX_COLLISION (R163): driving stops, COLLISIONS is counted, and the frame returns to DEFER with one attempt more, or is lost at
its sixth. The receiver takes nothing until the line next goes quiet (R164). The line is left busy, as at startSending: the quiet that
ends the collision comes with the next FRAME_RECEIVED (DESIGN CHOICE, log 32). -/
def execTxCollision (dt : Time) (s : State) : Host.Outcome State Fault Refusal :=
  let s := s.elapse dt
  .next <|
    match s.rbc.tx with
    | .sending f attempts _ =>
      let s := s.count .collisions
      let s := s.setRbc { s.rbc with rxMuted := true }
      if attempts + 1 < lastAttempt then s.setRbc { s.rbc with tx := .defer f (attempts + 1) s.now }
      else ((s.count .txLost).reportLoss f).nextFrame
    | _ => s

/-! ## Reception (R164 to R169) -/

/-- The blocks that consume received frames (R169). -/
inductive Block where
  | roamEngine | associationUnit | seatValidator | replayUnit | announcementUnit | counterBank
  deriving DecidableEq, Repr

/-- The gateway's station (00_scope.md). -/
def gateway : Station := 30

/-- The reset target a BLOCK_RESET's payload names. -/
def resetTargetOf (payload : List Byte) : Option ResetTarget := enumAt ResetTarget.table payload 0

/-- The block that consumes a frame, or none where the RBC releases it itself (R169, R201). -/
def consumer (source : Station) (k : FrameKind) (payload : List Byte) : Option Block :=
  match k with
  | .roamClaim | .roamGrant | .roamDeny | .roamReturn | .clientMoved | .contextReply => some .roamEngine
  | .seatReleased => some .associationUnit
  | .tokenForward | .tokenResult | .authorityAnswer => some .seatValidator
  | .segment | .streamAnnounce => some .replayUnit
  | .presence | .load => some .announcementUnit
  | .matchState => if source = gateway then some .seatValidator else none
  | .harvestRequest => if source = gateway then some .counterBank else none
  | .blockReset =>
    if source = gateway then
      match resetTargetOf payload with
      | some .roam => some .associationUnit
      | some .ticket => some .seatValidator
      | some .replay => some .replayUnit
      | some .counters => some .counterBank
      | none => none
    else none
  | .authorityQuery | .streamWant | .harvest | .notice => none

/-- The block that consumes a stored frame. -/
def RxFrame.block (f : RxFrame) : Option Block := consumer f.source f.kind f.payload

/-- Places of the receive queue (R168). -/
def rxPlaces : Nat := 8

/-- The peer entry of a stored frame's source is refreshed: LIVE, heard now (R140). -/
def State.refreshPeer (s : State) (source : Station) : State :=
  s.setAnu
    { s.anu with
      peers := s.anu.peers.map (fun p => if p.station == source then { p with status := .live, lastFrame := s.now } else p) }

/-- A frame addressed to the node is stored, counted by length and refreshes its source's peer, or is dropped at a full queue
(R168). A frame that no block consumes is released at this same event (R169; log 12). -/
def State.storeFrame (s : State) (f : RxFrame) : State :=
  if s.rbc.rxQueue.length < rxPlaces then
    let s := s.count (rxLengthCounter (lengthBucket f.payload.length))
    let s := s.refreshPeer f.source
    if f.block.isSome then s.setRbc { s.rbc with rxQueue := s.rbc.rxQueue ++ [f] } else s
  else s.count .rxOverrun

/-- A frame bears the node's own address as its source (R166): RX_BAD, and one NOTICE ADDRESS_CLASH for each reset. -/
def State.addressClash (s : State) : State :=
  let s := s.count .rxBad
  if s.rbc.clashNoted then s
  else (s.setRbc { s.rbc with clashNoted := true }).armNotice .addressClash s.own

/-- A destination that the node keeps: 0 or its own address (R167). -/
def State.addressed (s : State) (destination : Station) : Bool := destination == 0 || s.isOwn destination

/-- The receiver takes what the line brought (R164 to R168). -/
def State.receive (s : State) (bytes : List Byte) : State :=
  match judgeFrame bytes with
  | .runt => s.count .rxBad
  | .bad => s.count .rxBad
  | .good destination source kind payload =>
    if s.isOwn source then s.addressClash
    else if s.addressed destination then
      s.storeFrame
        { destination := destination, source := source, kind := kind, payload := payload, storedAt := s.now }
    else s

/-- The transmitter is SENDING (R160). -/
def Transmitter.isSending (t : Transmitter) : Bool :=
  match t with
  | .sending .. => true
  | _ => false

/-- FRAME_RECEIVED: the line goes quiet at a frame's end, and a waiting deferral starts from now (R161). While STARTING, and after
a collision until this quiet, the receiver takes nothing (R164). While SENDING the node itself drives the line, and
nothing is taken (R164; log 27). A frame is judged by the node state at its end: one that began while STARTING and ends after it is
received like any other (DESIGN CHOICE, log 31). After a TX_COLLISION this command is the quiet that ends it, and its bytes are not
read (DESIGN CHOICE, log 32). -/
def execFrameReceived (dt : Time) (bytes : List Byte) (s : State) : Host.Outcome State Fault Refusal :=
  let s := s.elapse dt
  .next <|
    if s.rbc.tx.isSending then s
    else
      let muted := s.rbc.rxMuted
      let s := s.setRbc { s.rbc with quietSince := some s.now, rxMuted := false }
      if muted || s.isStarting then s else s.receive bytes

/-! ## Taking a frame from the receive queue (R169) -/

/-- A block takes the oldest stored frame of its kinds, if it is one that `p` accepts: the frame, and the state without it. -/
def State.takeFrame (s : State) (b : Block) (p : RxFrame → Bool) : Option (RxFrame × State) :=
  match s.rbc.rxQueue.find? (fun f => f.block == some b) with
  | some f =>
    if p f then
      some (f, s.setRbc { s.rbc with rxQueue := s.rbc.rxQueue.eraseP (fun f => f.block == some b) })
    else none
  | none => none

/-- The message a frame carries, or none where its consuming block discards it (R201, R202). -/
def RxFrame.message (f : RxFrame) : Option Message := parseMessage f.kind f.payload

end Sys2Proof.Machine
end

