-- ==== Sys2Proof/Machine/Seats.lean ====
section
/-! DEFINITION. The seat table: presence, the seat decision, contests and verdicts (chapters 4 and 5), with the commands
SEAT_HOLD_EXPIRY, AUTHORITY_TIMER_EXPIRY and the four AUTHORITY_ANSWER commands. -/

namespace Sys2Proof.Machine

/-! ## Seat records (R73) -/

/-- The record of a seat. -/
def State.findSeat (s : State) (n : Seat) : Option SeatRecord := s.sv.seats.find? (fun r => r.number == n)

/-- Change a seat's record. -/
def State.updateSeat (s : State) (n : Seat) (f : SeatRecord → SeatRecord) : State :=
  s.setSv { s.sv with seats := s.sv.seats.map (fun r => if r.number == n then f r else r) }

/-- The binding a seat's state keeps (R73). -/
def SeatState.holder (st : SeatState) : Option Holder :=
  match st with
  | .bound _ h => some h
  | .contested _ h => some h
  | .vacant => none
  | .blocked => none

/-- A seat VACANT, its binding and prior state removed (R83). -/
def SeatRecord.vacated (r : SeatRecord) : SeatRecord := { r with state := .vacant }

/-- The seat table of a seat block, every seat VACANT (R73). held-since and last-present have no value yet (log 16). -/
def seatTable (block : Option SeatBlock) : List SeatRecord :=
  match block with
  | none => []
  | some b =>
    (List.range (b.last + 1 - b.first)).map fun i =>
      { number := b.first + i, state := .vacant, heldSince := 0, lastPresent := 0 }

/-! ## Presence (R78, R79) -/

/-- The node's smoothed signal for a client: its entry's, else its sighting's (R27, R78). -/
def State.signalOf (s : State) (c : ClientId) : Option Int :=
  match s.findEntry c with
  | some e => some e.signal
  | none => (s.findSighting c).map (·.signal)

/-- The client is present: its signal is at or above four times the presence threshold (R78). -/
def State.present (s : State) (c : ClientId) : Bool :=
  (s.signalOf c).any (fun signal => decide (4 * s.par.presenceThreshold ≤ signal))

/-- A seat found present: OCCUPIED, with last-present now (R77, R79). -/
def SeatRecord.occupy (now : Time) (r : SeatRecord) : SeatRecord :=
  match r.state with
  | .bound _ h => { r with state := .bound .occupied h, lastPresent := now }
  | _ => r

/-- At a signal update, every seat bound to the client is tested for presence (R79). -/
def State.testPresence (s : State) (c : ClientId) : State :=
  if s.present c then
    s.setSv { s.sv with seats := s.sv.seats.map (fun r => if r.state.homeFor c then r.occupy s.now else r) }
  else s

/-! ## Releasing a seat (R80, R100) -/

/-- A SEAT_RELEASED for a binding is queued to station 0, and the own AU applies it (R80, R100, R20). -/
def State.releaseSeat (s : State) (h : Holder) (seat : Seat) : State :=
  (s.send 0 (.seatReleased h.client h.serial seat)).releaseBinding h.client h.serial seat

/-- A HELD seat whose hold time has passed goes VACANT and is released (R80). -/
def State.expireHold (s : State) (seat : Seat) : State :=
  match s.findSeat seat with
  | some r =>
    match r.state with
    | .bound .held h =>
      if s.reached (r.heldSince + seconds s.par.holdSeconds) then
        (s.updateSeat seat SeatRecord.vacated).releaseSeat h seat
      else s
    | _ => s
  | none => s

/-- SEAT_HOLD_EXPIRY (R80). -/
def execSeatHoldExpiry (dt : Time) (seat : Seat) (s : State) : Host.Outcome State Fault Refusal :=
  .next ((s.elapse dt).expireHold seat)

/-! ## The seat decision (R74, R76, R77) -/

/-- Places of the authority list (R87). -/
def authorityPlaces : Nat := 8

/-- Seconds an authority timer runs (R86, R90). -/
def authoritySeconds : Nat := 10

/-- The serial is bound to another seat, or challenges for another seat (R74). -/
def State.serialElsewhere (s : State) (serial : Serial) (seat : Seat) : Bool :=
  s.sv.seats.any (fun r => r.number != seat && r.state.holder.any (fun h => h.serial == serial)) ||
    s.sv.authority.any (fun a => a.seat != seat && a.challenger.serial == serial)

/-- An AUTHORITY_QUERY for an entry, with the incumbent as the seat holds it (R89). -/
def State.query (s : State) (a : AuthorityEntry) (incumbent : Holder) : State :=
  s.send gateway (.authorityQuery a.seat a.reason incumbent a.challenger)

/-- A contest is raised on a bound seat (R86). -/
def State.raiseContest (s : State) (seat : Seat) (st : BoundState) (incumbent challenger : Holder) : State × TokenCode :=
  if authorityPlaces ≤ s.sv.authority.length then (s, .contestBusy)
  else
    let a : AuthorityEntry :=
      { seat := seat,
        reason := if incumbent.serial = challenger.serial then .duplicateSerial else .doubleSale,
        challenger := challenger, attempts := 1, expiry := s.now + seconds authoritySeconds }
    let s := s.updateSeat seat (fun r => { r with state := .contested st incumbent })
    let s := s.setSv { s.sv with authority := s.sv.authority ++ [a] }
    let s := s.query a incumbent
    (s.count .contests, .pending)

/-- A refresh by the bound client (R77): the origin is set, and presence is tested at once. -/
def State.refreshSeat (s : State) (seat : Seat) (st : BoundState) (h : Holder) : State × TokenCode :=
  let s := s.updateSeat seat (fun r => { r with state := .bound st h })
  if s.present h.client then (s.updateSeat seat (SeatRecord.occupy s.now), .accepted)
  else (s, if st = .held then .held else .accepted)

/-- A VACANT seat takes a binding (R76). -/
def State.bindSeat (s : State) (seat : Seat) (h : Holder) : State × TokenCode :=
  if s.present h.client then
    (s.updateSeat seat (fun r => { r with state := .bound .occupied h, heldSince := s.now, lastPresent := s.now }), .accepted)
  else (s.updateSeat seat (fun r => { r with state := .bound .held h, heldSince := s.now }), .held)

/-- The seat decision (R76) on a token's seat for {serial, client, origin}. -/
def State.decideSeat (s : State) (seat : Seat) (h : Holder) : State × TokenCode :=
  match s.findSeat seat with
  | none => (s, .notOwner)
  | some r =>
    if r.state = .blocked then (s, .refusedBlocked)
    else if s.serialElsewhere h.serial seat then (s, .refusedContest)
    else
      match r.state with
      | .blocked => (s, .refusedBlocked)
      | .contested _ _ => (s, .contestBusy)
      | .vacant => s.bindSeat seat h
      | .bound st b =>
        if b.serial = h.serial ∧ b.client = h.client then s.refreshSeat seat st h else s.raiseContest seat st b h

/-! ## Verdicts (R92 to R98) -/

/-- The authority entry that names a seat. -/
def State.findAuthority (s : State) (seat : Seat) : Option AuthorityEntry := s.sv.authority.find? (fun a => a.seat == seat)

/-- An authority entry is removed, with its timer (R87). -/
def State.eraseAuthority (s : State) (seat : Seat) : State :=
  s.setSv { s.sv with authority := s.sv.authority.filter (fun a => a.seat != seat) }

/-- A verdict's code is given to the challenger through its origin station (R98). -/
def State.tellChallenger (s : State) (a : AuthorityEntry) (code : TokenCode) : State :=
  let h := a.challenger
  if s.isOwn h.origin then s.deliverUnsolicited h.client h.serial a.seat code h.origin
  else s.send h.origin (.tokenResult h.client h.serial a.seat code)

/-- A seat returned to its prior state (R93). -/
def SeatRecord.restored (r : SeatRecord) : SeatRecord :=
  match r.state with
  | .contested prior h => { r with state := .bound prior h }
  | _ => r

/-- KEEP (R93): the seat returns to its prior state, the entry goes, the challenger is told REFUSED_CONTEST; a seat back in HELD
past its deadline goes VACANT at once (log 14). -/
def State.applyKeep (s : State) (a : AuthorityEntry) : State :=
  let s := s.updateSeat a.seat SeatRecord.restored
  let s := s.eraseAuthority a.seat
  let s := s.tellChallenger a .refusedContest
  s.expireHold a.seat

/-- A SEAT_RELEASED naming the incumbent of a contested seat is issued (R100). -/
def State.releaseIncumbent (s : State) (seat : Seat) : State :=
  match (s.findSeat seat).bind (fun r => r.state.holder) with
  | some h => s.releaseSeat h seat
  | none => s

/-- REPLACE (R94). -/
def State.applyReplace (s : State) (a : AuthorityEntry) : State :=
  let s := s.releaseIncumbent a.seat
  let s := s.updateSeat a.seat (fun r => { r with state := .bound .held a.challenger, heldSince := s.now })
  let s := s.eraseAuthority a.seat
  s.tellChallenger a .held

/-- BLOCK (R95). -/
def State.applyBlock (s : State) (a : AuthorityEntry) : State :=
  let s := s.releaseIncumbent a.seat
  let s := s.updateSeat a.seat (fun r => { r with state := .blocked })
  let s := s.eraseAuthority a.seat
  s.tellChallenger a .refusedBlocked

/-- AUTHORITY_TIMER_EXPIRY: at the first expiry the query goes out again with attempts 2 (R90); at the second the contest is settled
by default and a NOTICE is armed (R91). -/
def execAuthorityTimerExpiry (dt : Time) (seat : Seat) (s : State) : Host.Outcome State Fault Refusal :=
  let s := s.elapse dt
  .next <|
    match s.findAuthority seat with
    | none => s
    | some a =>
      if !s.reached a.expiry then s
      else if a.attempts = 1 then
        let a' : AuthorityEntry := { a with attempts := 2, expiry := s.now + seconds authoritySeconds }
        let s := s.setSv { s.sv with authority := s.sv.authority.map (fun x => if x.seat == seat then a' else x) }
        match (s.findSeat seat).bind (fun r => r.state.holder) with
        | some incumbent => s.query a' incumbent
        | none => s
      else (s.applyKeep a).armNotice .contestDefaulted seat

/-- The verdict an AUTHORITY_ANSWER's payload names. -/
def verdictOf (f : RxFrame) : Option Verdict := enumAt Verdict.table f.payload 2

/-- The SV takes an AUTHORITY_ANSWER of a verdict. One whose verdict names nothing is taken and discarded (R201; log 11). -/
def State.takeAnswer (s : State) (v : Verdict) : Option (RxFrame × State) :=
  s.takeFrame .seatValidator fun f =>
    f.kind == .authorityAnswer && (verdictOf f == some v || verdictOf f == none)

/-- The seat that an answer acts on: its source is station 30, its verdict is `v`, and the node is not STARTING (R92). -/
def State.answeredSeat (s : State) (f : RxFrame) (v : Verdict) : Option Seat :=
  if s.isStarting || f.source != gateway then none
  else
    match f.message with
    | some (.authorityAnswer seat w) => if w = v then some seat else none
    | _ => none

/-- A KEEP, REPLACE or BLOCK is applied when an authority entry names the seat, and is discarded otherwise (R92). -/
def State.answer (s : State) (f : RxFrame) (v : Verdict) (apply : State → AuthorityEntry → State) : State :=
  match (s.answeredSeat f v).bind s.findAuthority with
  | some a => apply s a
  | none => s

/-- AUTHORITY_ANSWER_KEEP (R93). -/
def execAuthorityAnswerKeep (dt : Time) (s : State) : Host.Outcome State Fault Refusal :=
  let s := s.elapse dt
  .next <|
    match s.takeAnswer .keep with
    | some (f, s) => s.answer f .keep State.applyKeep
    | none => s

/-- AUTHORITY_ANSWER_REPLACE (R94). -/
def execAuthorityAnswerReplace (dt : Time) (s : State) : Host.Outcome State Fault Refusal :=
  let s := s.elapse dt
  .next <|
    match s.takeAnswer .replace with
    | some (f, s) => s.answer f .replace State.applyReplace
    | none => s

/-- AUTHORITY_ANSWER_BLOCK (R95). -/
def execAuthorityAnswerBlock (dt : Time) (s : State) : Host.Outcome State Fault Refusal :=
  let s := s.elapse dt
  .next <|
    match s.takeAnswer .block with
    | some (f, s) => s.answer f .block State.applyBlock
    | none => s

/-- A BLOCKED seat VACANT (R96). -/
def SeatRecord.unblocked (r : SeatRecord) : SeatRecord :=
  if r.state = .blocked then { r with state := .vacant } else r

/-- AUTHORITY_ANSWER_UNBLOCK (R96): a BLOCKED seat becomes VACANT; a seat in any other state is left as it is. -/
def execAuthorityAnswerUnblock (dt : Time) (s : State) : Host.Outcome State Fault Refusal :=
  let s := s.elapse dt
  .next <|
    match s.takeAnswer .unblock with
    | some (f, s) =>
      match s.answeredSeat f .unblock with
      | some seat => s.updateSeat seat SeatRecord.unblocked
      | none => s
    | none => s

end Sys2Proof.Machine
end

