-- ==== Sys2Proof/Machine/Tokens.lean ====
section
/-! DEFINITION. Tokens at their origin and at their owner, and the match state (chapter 4): the commands TOKEN_FORWARD, TOKEN_RESULT,
PENDING_TOKEN_TIMER_EXPIRY, MATCH_STATE_OPEN, MATCH_STATE_CLOSED, BLOCK_RESET_TICKET, and the handling of a TOKEN record that
Uplink.lean takes. -/

namespace Sys2Proof.Machine

/-! ## At the origin (R65 to R68) -/

/-- The node owns the seat: not defaulted, and the seat lies in its block (R67). -/
def State.ownsSeat (s : State) (n : Seat) : Bool := !s.sl.defaulted && s.par.block.any (fun b => b.contains n)

/-- A LIVE NODE peer (R145). -/
def PeerEntry.liveNode (p : PeerEntry) : Bool := p.cls == .node && p.status == .live

/-- The LIVE NODE peer with the lowest station whose seat block contains the seat (R67, R145). -/
def State.seatOwner (s : State) (n : Seat) : Option Station :=
  (minBy (·.station) (s.anu.peers.filter (fun p => p.liveNode && p.block.any (fun b => b.contains n)))).map (·.station)

/-- The first test of R65 that a token fails, as its code. -/
def State.tokenRefusal (s : State) (t : Token) : Option TokenCode :=
  if s.sv.matchState = .closed then some .matchClosed
  else if !s.isRunning then some .tryAgain
  else if t.serial = 0 ∨ t.seat < 1 ∨ 999 < t.seat then some .refusedForm
  else
    match s.par.codes with
    | none => none
    | some k =>
      if t.matchCode ≠ k.matchCode then some .refusedMatch
      else if t.rowCode ≠ k.rowCode then some .refusedRow
      else if t.check ≠ tokenCheckWord k.matchKey t then some .refusedCheck
      else none

/-- Places of the pending-token list (R69). -/
def pendingPlaces : Nat := 8

/-- A pending-token timer's expiry when it starts now: 1 s (R68, R70). -/
def State.pendingExpiry (s : State) : Time := s.now + seconds 1

/-- Forwarding a token (R68): absorbed by an entry with its key, TRY_AGAIN at a full list, else a pending entry and a TOKEN_FORWARD. -/
def State.forwardToken (s : State) (c : ClientId) (t : Token) (destination : Station) : State :=
  if (s.findPending c t.serial).isSome then s
  else if pendingPlaces ≤ s.sv.pendingTokens.length then s.deliver c t.serial t.seat .tryAgain s.own
  else
    let p : PendingToken :=
      { client := c, token := t, destination := destination, reforwarded := false, expiry := s.pendingExpiry }
    let s := s.setSv { s.sv with pendingTokens := s.sv.pendingTokens ++ [p] }
    s.send destination (.tokenForward c t)

/-- Routing a token that has passed R65 (R67). -/
def State.routeToken (s : State) (c : ClientId) (t : Token) : State :=
  if s.ownsSeat t.seat then
    let d := s.decideSeat t.seat { serial := t.serial, client := c, origin := s.own }
    d.1.deliver c t.serial t.seat d.2 d.1.own
  else if s.sl.defaulted then s.forwardToken c t gateway
  else s.forwardToken c t ((s.seatOwner t.seat).getD gateway)

/-- The handling of a TOKEN record (R65). -/
def State.takeToken (s : State) (c : ClientId) (t : Token) : State :=
  match s.tokenRefusal t with
  | some code => s.deliver c t.serial t.seat code s.own
  | none => s.routeToken c t

/-! ## At the owner (R75) -/

/-- The code of a received forward, with what the seat decision changes (R75). -/
def State.answerForward (s : State) (source : Station) (c : ClientId) (t : Token) : State × TokenCode :=
  if s.sv.matchState = .closed then (s, .matchClosed)
  else if !s.isRunning then (s, .tryAgain)
  else s.decideSeat t.seat { serial := t.serial, client := c, origin := source }

/-- TOKEN_FORWARD (R75): one TOKEN_RESULT answers it. One sent to 0, one whose source names no station (log 10), and one taken while
STARTING are discarded. -/
def execTokenForward (dt : Time) (s : State) : Host.Outcome State Fault Refusal :=
  let s := s.elapse dt
  .next <|
    match s.takeFrame .seatValidator (fun f => f.kind == .tokenForward) with
    | none => s
    | some (f, s) =>
      if s.isStarting || f.destination == 0 || !isStation f.source then s
      else
        match f.message with
        | some (.tokenForward c t) =>
          let d := s.answerForward f.source c t
          d.1.send f.source (.tokenResult c t.serial t.seat d.2)
        | _ => s

/-! ## Results (R70 to R72) -/

/-- A pending entry re-forwarded to the gateway: destination 30, flag set, timer restarted (R70). -/
def State.reforward (s : State) (p : PendingToken) : State :=
  let p' : PendingToken := { p with destination := gateway, reforwarded := true, expiry := s.pendingExpiry }
  let s := s.setSv
    { s.sv with
      pendingTokens := s.sv.pendingTokens.map (fun x => if x.matches p.client p.token.serial then p' else x) }
  s.send gateway (.tokenForward p.client p.token)

/-- A TOKEN_RESULT taken while the match is OPEN (R70, R72). Its serial and seat, which no rule tests, are taken as they are carried
(DESIGN CHOICE, log 30). -/
def State.takeResult (s : State) (source : Station) (c : ClientId) (serial : Serial) (seat : Seat) (code : TokenCode) : State :=
  match s.findPending c serial with
  | some p =>
    if code = .notOwner ∧ p.reforwarded = false then s.reforward p
    else (s.erasePending c serial).deliver c serial seat code source
  | none => s.deliverUnsolicited c serial seat code source

/-- TOKEN_RESULT (R70, R72): discarded while STARTING and while the match is CLOSED (R82). -/
def execTokenResult (dt : Time) (s : State) : Host.Outcome State Fault Refusal :=
  let s := s.elapse dt
  .next <|
    match s.takeFrame .seatValidator (fun f => f.kind == .tokenResult) with
    | none => s
    | some (f, s) =>
      if s.isStarting || s.sv.matchState == .closed then s
      else
        match f.message with
        | some (.tokenResult c serial seat code) => s.takeResult f.source c serial seat code
        | _ => s

/-- PENDING_TOKEN_TIMER_EXPIRY (R71): TRY_AGAIN is delivered and the entry removed. -/
def execPendingTokenTimerExpiry (dt : Time) (client : ClientId) (serial : Serial) (s : State) :
    Host.Outcome State Fault Refusal :=
  let s := s.elapse dt
  .next <|
    match s.findPending client serial with
    | some p => if s.reached p.expiry then s.settleTryAgain p else s
    | none => s

/-! ## The match state and BLOCK_RESET TICKET (R82 to R84) -/

/-- The match state a MATCH_STATE's payload names. -/
def matchStateOf (f : RxFrame) : Option MatchState := enumAt MatchState.table f.payload 0

/-- The SV takes a MATCH_STATE of a value. One whose value names nothing is taken and discarded (R201; log 11). -/
def State.takeMatchState (s : State) (m : MatchState) : Option (RxFrame × State) :=
  s.takeFrame .seatValidator fun f => f.kind == .matchState && (matchStateOf f == some m || matchStateOf f == none)

/-- MATCH_STATE_OPEN (R82): the state becomes OPEN, with no other change. -/
def execMatchStateOpen (dt : Time) (s : State) : Host.Outcome State Fault Refusal :=
  let s := s.elapse dt
  .next <|
    match s.takeMatchState .opened with
    | none => s
    | some (f, s) =>
      if s.isStarting || matchStateOf f != some .opened then s else s.setSv { s.sv with matchState := .opened }

/-- Every seat VACANT and the authority list emptied, with no SEAT_RELEASED (R83, R84). -/
def State.clearSeats (s : State) : State :=
  s.setSv { s.sv with seats := s.sv.seats.map SeatRecord.vacated, authority := [] }

/-- Each pending-token entry, oldest first, is answered with a code and removed (R83, R84). -/
def State.answerPending (s : State) (code : TokenCode) : State :=
  let tokens := s.sv.pendingTokens
  let s := s.setSv { s.sv with pendingTokens := [] }
  tokens.foldl (fun s p => s.deliver p.client p.token.serial p.token.seat code s.own) s

/-- Every binding list is emptied, and the entries this leaves past their inactivity deadline are removed (R20, R12). The order of
their DROP_CLIENT records is a free value (log 9). -/
def State.emptyBindings (s : State) : State :=
  let kept := (s.au.clients.filter (fun e => !e.bindings.isEmpty)).map (·.id)
  let order := s.freeOrder kept
  let s := s.drawn
  let s := s.setAu { s.au with clients := s.au.clients.map (fun e => { e with bindings := [] }) }
  order.foldl State.removeIfInactive s

/-- The match closes (R82, R83). -/
def State.closeMatch (s : State) : State :=
  let s := s.setSv { s.sv with matchState := .closed }
  let s := s.clearSeats
  let s := s.answerPending .matchClosed
  s.emptyBindings

/-- MATCH_STATE_CLOSED (R83). -/
def execMatchStateClosed (dt : Time) (s : State) : Host.Outcome State Fault Refusal :=
  let s := s.elapse dt
  .next <|
    match s.takeMatchState .closed with
    | none => s
    | some (f, s) => if s.isStarting || matchStateOf f != some .closed then s else s.closeMatch

/-- A BLOCK_RESET of a target is the oldest frame of its block; the RBC releases those of other targets and sources (R169). -/
def RxFrame.isReset (f : RxFrame) (t : ResetTarget) : Bool := f.kind == .blockReset && resetTargetOf f.payload == some t

/-- BLOCK_RESET_TICKET (R84). -/
def execBlockResetTicket (dt : Time) (s : State) : Host.Outcome State Fault Refusal :=
  let s := s.elapse dt
  .next <|
    match s.takeFrame .seatValidator (fun f => f.isReset .ticket) with
    | none => s
    | some (_, s) => if s.isStarting then s else s.clearSeats.answerPending .tryAgain

end Sys2Proof.Machine
end

