-- ==== Sys2Proof/Machine/Roam.lean ====
section
/-! DEFINITION. The Roam Engine (chapter 3): claims, grants, denials, returns, client-driven moves and their timers; signal updates,
which may claim; and BLOCK_RESET ROAM. -/

namespace Sys2Proof.Machine

/-! ## Durations (R38, R44, R51, R57) -/

/-- The claim timer: 300 ms. -/
def claimTime : Time := millis 300

/-- The ROAM_IN timer: 2 s. -/
def roamInTime : Time := seconds 2

/-- The grant timer: 3 s. -/
def grantTime : Time := seconds 3

/-- The hold-down: 30 s. -/
def holdDownTime : Time := seconds 30

/-- The context wait: 1 s. -/
def contextWaitTime : Time := seconds 1

/-! ## Counting the entries in a roam state (R38, R39, R41) -/

/-- At most so many entries are RESERVED, and at most so many ROAM_OUT (R38). -/
def roamPlaces : Nat := 4

/-- The entry is RESERVED. -/
def ClientEntry.isReserved (e : ClientEntry) : Bool :=
  match e.state with
  | .reserved .. => true
  | _ => false

/-- The entry is ROAM_OUT. -/
def ClientEntry.isRoamOut (e : ClientEntry) : Bool :=
  match e.state with
  | .roamOut .. => true
  | _ => false

/-! ## The claim (R39, R40) -/

/-- The station is a LIVE NODE peer (R39, R145). -/
def State.liveNodePeer (s : State) (a : Station) : Bool := s.anu.peers.any (fun p => p.station == a && p.liveNode)

/-- The six tests of a claim check (R39). -/
def State.claims (s : State) (g : Sighting) : Bool :=
  s.isRunning && g.status == .seen && s.liveNodePeer g.cell &&
    decide ((s.au.clients.filter ClientEntry.isReserved).length < roamPlaces) &&
    decide (s.au.clients.length < s.par.limit) && decide (s.par.claimFloor ≤ s.scoreOfSighting g)

/-- A claim (R40): the sighting gives way to a RESERVED entry, and a ROAM_CLAIM goes to the serving cell. -/
def State.claim (s : State) (g : Sighting) : State :=
  let score := s.scoreOfSighting g
  let s := s.createEntry (ClientEntry.fresh g.id (.reserved g.cell (s.now + claimTime)) g.signal true g.lastHeard)
  s.send g.cell (.roamClaim g.id score)

/-- The claim check at a signal update of a sighting (R39). -/
def State.claimCheck (s : State) (c : ClientId) : State :=
  match s.findSighting c with
  | some g => if s.claims g then s.claim g else s
  | none => s

/-! ## Samples (R6, R32, R79) -/

/-- A sample taken by an entry: the first-sample rule if it is unsampled, else the smoothing rule (R6, R23, R24). -/
def ClientEntry.sampleWith (rssi : Int) (now : Time) (e : ClientEntry) : ClientEntry :=
  { e with signal := if e.sampled then smooth e.signal rssi else firstSample rssi, sampled := true, lastHeard := now }

/-- A sample taken by a sighting (R6). -/
def Sighting.sampleWith (rssi : Int) (cell : Station) (now removal : Time) (g : Sighting) : Sighting :=
  { g with signal := smooth g.signal rssi, lastHeard := now, cell := cell, removal := removal }

/-- A signal update of a client: the RE rescores its entry or runs the claim check on its sighting (R32, R39), and the SV tests
presence (R79). The two touch different state (R6; log 19). -/
def State.signalUpdate (s : State) (c : ClientId) : State :=
  (if s.hasEntry c then s.rescore c else s.claimCheck c).testPresence c

/-- The AU takes a sample (R6). -/
def State.sample (s : State) (c : ClientId) (rssi : Int) (cell : Station) : State :=
  if s.hasEntry c then (s.updateEntry c (ClientEntry.sampleWith rssi s.now)).signalUpdate c
  else if (s.findSighting c).isSome then
    (s.updateSighting c (Sighting.sampleWith rssi cell s.now s.sightingRemoval)).signalUpdate c
  else
    (s.insertSighting
      { id := c, signal := firstSample rssi, lastHeard := s.now, cell := cell, status := .seen,
        removal := s.sightingRemoval }).signalUpdate c

/-! ## Taking a roam frame (R36) -/

/-- The RE takes a roam frame of a kind. -/
def State.takeRoam (s : State) (k : FrameKind) : Option (RxFrame × State) := s.takeFrame .roamEngine (fun f => f.kind == k)

/-- A roam frame that the RE acts on: not while STARTING (R62), from a station 1..29 and for a client ID that is not 0 (R36). -/
def State.roamFrameOk (s : State) (f : RxFrame) : Bool :=
  !s.isStarting && isNodeStation f.source && clientAt f.payload 0 != 0

/-! ## The serving node (R41 to R44) -/

/-- A denial (R43): the entry's stored score, or 0 with no entry. -/
def State.deny (s : State) (claimant : Station) (c : ClientId) (reason : DenyReason) : State :=
  s.send claimant (.roamDeny c reason ((s.findEntry c).elim 0 (·.score)))

/-- A grant (R44). -/
def State.grant (s : State) (claimant : Station) (e : ClientEntry) : State :=
  let s := s.updateEntry e.id (fun e => { e with state := .roamOut claimant (s.now + grantTime), contextWait := none })
  let s := s.send claimant (.roamGrant e.id e.context)
  let s := s.handReply (.moveTo e.id claimant)
  s.count .roamsOut

/-- The decision on a claim (R41). A claimant score above 1010, which no rule tests, is compared as it is carried (DESIGN CHOICE,
log 30). -/
def State.decideClaim (s : State) (claimant : Station) (c : ClientId) (claimScore : Nat) : State :=
  match s.findEntry c with
  | none => s.deny claimant c .notServing
  | some e =>
    match e.state with
    | .reserved .. => s.deny claimant c .notServing
    | .roamIn .. => s.deny claimant c .notServing
    | .roamOut .. => s.deny claimant c .busy
    | .associated =>
      if roamPlaces ≤ (s.au.clients.filter ClientEntry.isRoamOut).length then s.deny claimant c .busy
      else if e.holdDown.isSome then s.deny claimant c .hold
      else
        let own := s.scoreOf e
        let s := s.rescore c
        if claimScore < own + s.par.margin then s.deny claimant c .score else s.grant claimant e

/-- ROAM_CLAIM (R41). -/
def execRoamClaim (dt : Time) (s : State) : Host.Outcome State Fault Refusal :=
  let s := s.elapse dt
  .next <|
    match s.takeRoam .roamClaim with
    | none => s
    | some (f, s) =>
      match f.message with
      | some (.roamClaim c n) => if s.roamFrameOk f then s.decideClaim f.source c n else s
      | _ => s

/-! ## The claimant (R46 to R50) -/

/-- A grant that answers the reservation (R46). -/
def State.takeGrant (s : State) (source : Station) (c : ClientId) (x : Context) : State :=
  s.updateEntry c (fun e => { e.install x with state := .roamIn source (s.now + roamInTime) })

/-- A grant that finds no entry and is taken into a new, unsampled ROAM_IN entry (R47, R26). -/
def State.takeLateGrant (s : State) (source : Station) (c : ClientId) (x : Context) : State :=
  s.createEntry ((ClientEntry.fresh c (.roamIn source (s.now + roamInTime)) (-400) false s.now).install x)

/-- A grant that finds the client held here: the context is merged if it is awaited, and the granting node is told to let go (R47). -/
def State.mergeGrant (s : State) (source : Station) (e : ClientEntry) (x : Context) : State :=
  (if e.awaits source then s.mergeContext e.id x else s).send source (.clientMoved e.id false)

/-- A ROAM_GRANT by the state of the client's entry (R46, R47). -/
def State.decideGrant (s : State) (source : Station) (c : ClientId) (x : Context) : State :=
  match s.findEntry c with
  | none =>
    if s.isRunning && decide (s.au.clients.length < s.par.limit) then s.takeLateGrant source c x
    else s.send source (.roamReturn c)
  | some e =>
    match e.state with
    | .reserved peer _ => if peer = source then s.takeGrant source c x else s.send source (.roamReturn c)
    | .roamIn peer _ => if peer = source then s else s.send source (.roamReturn c)
    | .roamOut .. => s.mergeGrant source e x
    | .associated => s.mergeGrant source e x

/-- ROAM_GRANT (R46, R47). -/
def execRoamGrant (dt : Time) (s : State) : Host.Outcome State Fault Refusal :=
  let s := s.elapse dt
  .next <|
    match s.takeRoam .roamGrant with
    | none => s
    | some (f, s) =>
      match f.message with
      | some (.roamGrant c x) => if s.roamFrameOk f then s.decideGrant f.source c x else s
      | _ => s

/-- A denial ends the matching reservation, whatever its reason (R48). -/
def State.takeDenial (s : State) (source : Station) (c : ClientId) : State :=
  match s.findEntry c with
  | some e =>
    match e.state with
    | .reserved peer _ => if peer = source then s.endReservation e peer else s
    | _ => s
  | none => s

/-- ROAM_DENY (R48). -/
def execRoamDeny (dt : Time) (s : State) : Host.Outcome State Fault Refusal :=
  let s := s.elapse dt
  .next <|
    match s.takeRoam .roamDeny with
    | none => s
    | some (f, s) =>
      match f.message with
      | some (.roamDeny c _ _) => if s.roamFrameOk f then s.takeDenial f.source c else s
      | _ => s

/-- CLAIM_TIMER_EXPIRY (R49): the reservation ends exactly as a denial would end it. -/
def execClaimTimerExpiry (dt : Time) (client : ClientId) (s : State) : Host.Outcome State Fault Refusal :=
  let s := s.elapse dt
  .next <|
    match s.findEntry client with
    | some e =>
      match e.state with
      | .reserved peer expiry => if s.reached expiry then s.endReservation e peer else s
      | _ => s
    | none => s

/-- ROAM_IN_TIMER_EXPIRY (R52): the entry is removed with no output. -/
def execRoamInTimerExpiry (dt : Time) (client : ClientId) (s : State) : Host.Outcome State Fault Refusal :=
  let s := s.elapse dt
  .next <|
    match s.findEntry client with
    | some e =>
      match e.state with
      | .roamIn _ expiry => if s.reached expiry then s.removeEntry client else s
      | _ => s
    | none => s

/-! ## Back at the serving node (R53 to R56) -/

/-- The entry returns to ASSOCIATED, and the radio unit is told to stop directing the client away (R53, R54, R55). -/
def State.returnEntry (s : State) (c : ClientId) (holdDown : Option Time) : State :=
  (s.updateEntry c (fun e => { e with state := .associated, holdDown := holdDown })).handReply (.moveTo c s.own)

/-- GRANT_TIMER_EXPIRY (R53): back to ASSOCIATED with no hold-down. -/
def execGrantTimerExpiry (dt : Time) (client : ClientId) (s : State) : Host.Outcome State Fault Refusal :=
  let s := s.elapse dt
  .next <|
    match s.findEntry client with
    | some e =>
      match e.state with
      | .roamOut _ expiry => if s.reached expiry then s.returnEntry client none else s
      | _ => s
    | none => s

/-- A ROAM_RETURN from the roam peer of a ROAM_OUT entry (R54). -/
def State.takeReturn (s : State) (source : Station) (c : ClientId) : State :=
  match s.findEntry c with
  | some e =>
    match e.state with
    | .roamOut peer _ => if peer = source then s.returnEntry c (some (s.now + holdDownTime)) else s
    | _ => s
  | none => s

/-- ROAM_RETURN (R54). -/
def execRoamReturn (dt : Time) (s : State) : Host.Outcome State Fault Refusal :=
  let s := s.elapse dt
  .next <|
    match s.takeRoam .roamReturn with
    | none => s
    | some (f, s) =>
      match f.message with
      | some (.roamReturn c) => if s.roamFrameOk f then s.takeReturn f.source c else s
      | _ => s

/-- HOLD_DOWN_EXPIRY (R56): the hold-down expiry is made absent. -/
def execHoldDownExpiry (dt : Time) (client : ClientId) (s : State) : Host.Outcome State Fault Refusal :=
  let s := s.elapse dt
  .next <|
    match (s.findEntry client).bind (·.holdDown) with
    | some expiry => if s.reached expiry then s.updateEntry client (fun e => { e with holdDown := none }) else s
    | none => s

/-! ## Client-driven moves (R57 to R59) -/

/-- The move notice of an accepted join that names another node as serving cell (R10, R57). -/
def State.followMove (s : State) (c : ClientId) (cell : Station) : State :=
  if isNodeStation cell && !s.isOwn cell then
    let s := s.updateEntry c
      (fun e => { e with contextWait := some { oldStation := cell, expiry := s.now + contextWaitTime } })
    s.send cell (.clientMoved c true)
  else s

/-- CONTEXT_WAIT_EXPIRY (R57): the wait is made absent. -/
def execContextWaitExpiry (dt : Time) (client : ClientId) (s : State) : Host.Outcome State Fault Refusal :=
  let s := s.elapse dt
  .next <|
    match (s.findEntry client).bind (·.contextWait) with
    | some w => if s.reached w.expiry then s.endContextWait client else s
    | none => s

/-- A CLIENT_MOVED at the old station (R58): the context is sent when wanted, then the entry is removed in any state. -/
def State.takeMoved (s : State) (source : Station) (c : ClientId) (wanted : Bool) : State :=
  let s := if wanted then s.send source (.contextReply c ((s.findEntry c).map ClientEntry.context)) else s
  s.removeEntry c

/-- CLIENT_MOVED (R58). -/
def execClientMoved (dt : Time) (s : State) : Host.Outcome State Fault Refusal :=
  let s := s.elapse dt
  .next <|
    match s.takeRoam .clientMoved with
    | none => s
    | some (f, s) =>
      match f.message with
      | some (.clientMoved c w) => if s.roamFrameOk f then s.takeMoved f.source c w else s
      | _ => s

/-- A CONTEXT_REPLY reaching an entry that awaits it (R59); EMPTY ends the wait alone. -/
def State.takeContext (s : State) (source : Station) (c : ClientId) (x : Option Context) : State :=
  match s.findEntry c with
  | some e =>
    if e.awaits source then
      match x with
      | some x => s.mergeContext c x
      | none => s.endContextWait c
    else s
  | none => s

/-- CONTEXT_REPLY (R59). -/
def execContextReply (dt : Time) (s : State) : Host.Outcome State Fault Refusal :=
  let s := s.elapse dt
  .next <|
    match s.takeRoam .contextReply with
    | none => s
    | some (f, s) =>
      match f.message with
      | some (.contextReply c x) => if s.roamFrameOk f then s.takeContext f.source c x else s
      | _ => s

/-! ## BLOCK_RESET ROAM (R21, R63) -/

/-- A remaining entry after the reset: ASSOCIATED, hold-down and context wait absent (R21). -/
def ClientEntry.roamCleared (e : ClientEntry) : ClientEntry :=
  { e with state := .associated, holdDown := none, contextWait := none }

/-- BLOCK_RESET_ROAM (R21, R63): sightings emptied, RESERVED and ROAM_IN entries removed (their streams are not counted, so no
count changes), the rest ASSOCIATED without hold-down or context wait. Nothing is sent. -/
def execBlockResetRoam (dt : Time) (s : State) : Host.Outcome State Fault Refusal :=
  let s := s.elapse dt
  .next <|
    match s.takeFrame .associationUnit (fun f => f.isReset .roam) with
    | none => s
    | some (_, s) =>
      if s.isStarting then s
      else
        s.setAu
          { clients := (s.au.clients.filter (fun e => e.state.counted)).map ClientEntry.roamCleared, sightings := [] }

end Sys2Proof.Machine
end

