-- ==== Sys2Proof/Machine/Uplink.lean ====
section
/-! DEFINITION. The uplink side: UPLINK_RECORD_ARRIVAL, the seven records the Radio Port takes from its queue (R173), and the
timers of entries and sightings (R5, R12). -/

namespace Sys2Proof.Machine

/-- Places of the uplink queue (R172). -/
def uplinkPlaces : Nat := 16

/-- UPLINK_RECORD_ARRIVAL (R171, R172): discarded if ill-formed, dropped with RADIO_DROP at a full queue, else queued. -/
def execUplinkRecordArrival (dt : Time) (record : List Byte) (s : State) : Host.Outcome State Fault Refusal :=
  let s := s.elapse dt
  .next <|
    match parseUplink record with
    | none => s
    | some r =>
      if s.rp.uplink.length < uplinkPlaces then s.setRp { s.rp with uplink := s.rp.uplink ++ [r] } else s.count .radioDrop

/-! ## Taking a record (R173) -/

/-- The Radio Port takes the oldest record, if its body is one that `p` accepts: the record, and the state without it. -/
def State.takeUplink (s : State) (p : UplinkBody → Bool) : Option (UplinkRecord × State) :=
  match s.rp.uplink with
  | r :: rest => if p r.body then some (r, s.setRp { s.rp with uplink := rest }) else none
  | [] => none

/-- A record's sample (R6). -/
def State.sampleOf (s : State) (r : UplinkRecord) : State := s.sample r.client r.rssi r.cell

/-- The stray test (R7): a record whose serving cell is the own address, from a client with no entry, draws one DROP_CLIENT. -/
def State.strayTest (s : State) (r : UplinkRecord) : State :=
  if s.isOwn r.cell && !s.hasEntry r.client then s.handReply (.dropClient r.client) else s

/-- HEARD (R6, R7). -/
def execHeard (dt : Time) (s : State) : Host.Outcome State Fault Refusal :=
  let s := s.elapse dt
  .next <|
    match s.takeUplink (fun b => b == .heard) with
    | none => s
    | some (r, s) => if s.isStarting then s else (s.sampleOf r).strayTest r

/-! ## Joins (R8 to R10, R51, R55) -/

/-- A join is answered, and the answer counted (R8). -/
def State.replyJoin (s : State) (c : ClientId) (code : JoinCode) (redirect : Option Station) : State :=
  (s.handReply (.joinReply c code redirect)).count (if code = .accepted then .joinsAccepted else .joinsRefused)

/-- The redirect of a FULL reply: the LIVE NODE peer with a load whose E is below its L, the lowest U, then the lowest station (R9). -/
def State.redirect (s : State) : Option Station :=
  let suitable := s.anu.peers.filter (fun p => p.liveNode && p.load.any (fun l => decide (l.entries < l.limit)))
  (minBy (fun p => p.load.elim 0 (·.occupancy) * 2 ^ 8 + p.station) suitable).map (·.station)

/-- A roamed-in client is activated (R51), after its ACCEPTED reply. -/
def State.activate (s : State) (e : ClientEntry) (peer : Station) : State :=
  let s := s.updateEntry e.id fun e =>
    { e with state := .associated, holdDown := some (s.now + holdDownTime), subscriptions := [] }
  let s := e.subscriptions.foldl (fun s id => s.applySubscription e.id id) s
  let s := s.send peer (.clientMoved e.id false)
  s.count .roamsIn

/-- An accepted join creates the client's entry (R10), is answered (R8), is a signal update, and may be a client-driven move (R57). -/
def State.admitClient (s : State) (r : UplinkRecord) : State :=
  let e :=
    match s.findSighting r.client with
    | some g => ClientEntry.fresh r.client .associated g.signal true g.lastHeard
    | none => ClientEntry.fresh r.client .associated (firstSample r.rssi) true s.now
  let s := s.createEntry e
  let s := s.replyJoin r.client .accepted none
  let s := s.signalUpdate r.client
  s.followMove r.client r.cell

/-- The handling of a JOIN_REQUEST (R8). -/
def State.handleJoin (s : State) (r : UplinkRecord) : State :=
  if !s.isRunning then s.replyJoin r.client .notReady none
  else
    match s.findEntry r.client with
    | some e =>
      match e.state with
      | .associated => s.replyJoin r.client .accepted none
      | .roamIn peer _ => (s.replyJoin r.client .accepted none).activate e peer
      | .roamOut .. => (s.replyJoin r.client .accepted none).returnEntry r.client (some (s.now + holdDownTime))
      | .reserved .. => s.replyJoin r.client .notReady none
    | none =>
      if clampRssi r.rssi < s.par.joinFloor then s.replyJoin r.client .weak none
      else if s.par.limit ≤ s.au.clients.length then s.replyJoin r.client .full s.redirect
      else s.admitClient r

/-- JOIN_REQUEST (R8). -/
def execJoinRequest (dt : Time) (s : State) : Host.Outcome State Fault Refusal :=
  let s := s.elapse dt
  .next <|
    match s.takeUplink (fun b => b == .joinRequest) with
    | none => s
    | some (r, s) => if s.isStarting then s else (s.sampleOf r).handleJoin r

/-! ## Leaves, capability pieces, subscriptions, tokens (R11, R14, R17, R18, R65) -/

/-- The handling of a LEAVE (R11). -/
def State.handleLeave (s : State) (c : ClientId) : State :=
  match s.findEntry c with
  | some e => if e.state.counted then s.dropEntry c else s
  | none => s

/-- LEAVE (R11). -/
def execLeave (dt : Time) (s : State) : Host.Outcome State Fault Refusal :=
  let s := s.elapse dt
  .next <|
    match s.takeUplink (fun b => b == .leave) with
    | none => s
    | some (r, s) => if s.isStarting then s else ((s.sampleOf r).strayTest r).handleLeave r.client

/-- The client's entry, if it is ASSOCIATED. -/
def State.associatedEntry (s : State) (c : ClientId) : Option ClientEntry :=
  (s.findEntry c).filter (fun e => e.state == .associated)

/-- CAPS_PIECE (R14). -/
def execCapsPiece (dt : Time) (s : State) : Host.Outcome State Fault Refusal :=
  let s := s.elapse dt
  .next <|
    match s.takeUplink (fun b => match b with | .capsPiece .. => true | _ => false) with
    | none => s
    | some (r, s) =>
      if s.isStarting then s
      else
        let s := (s.sampleOf r).strayTest r
        match r.body, s.associatedEntry r.client with
        | .capsPiece index last data, some e => s.takePiece e index last data
        | _, _ => s

/-- SUBSCRIBE_ON (R17). -/
def execSubscribeOn (dt : Time) (s : State) : Host.Outcome State Fault Refusal :=
  let s := s.elapse dt
  .next <|
    match s.takeUplink (fun b => match b with | .subscribe _ true => true | _ => false) with
    | none => s
    | some (r, s) =>
      if s.isStarting then s
      else
        let s := (s.sampleOf r).strayTest r
        match r.body, s.associatedEntry r.client with
        | .subscribe id _, some _ => s.applySubscription r.client id
        | _, _ => s

/-- A SUBSCRIBE with the off flag for an ASSOCIATED entry (R18). -/
def State.unsubscribe (s : State) (e : ClientEntry) (id : StreamId) : State :=
  let s :=
    if id ∈ e.subscriptions then
      (s.updateEntry e.id (fun e => { e with subscriptions := e.subscriptions.filter (fun x => x != id) })).lowerCount id
    else s
  s.handReply (.subscribeReply e.id id .ok none)

/-- SUBSCRIBE_OFF (R18). -/
def execSubscribeOff (dt : Time) (s : State) : Host.Outcome State Fault Refusal :=
  let s := s.elapse dt
  .next <|
    match s.takeUplink (fun b => match b with | .subscribe _ false => true | _ => false) with
    | none => s
    | some (r, s) =>
      if s.isStarting then s
      else
        let s := (s.sampleOf r).strayTest r
        match r.body, s.associatedEntry r.client with
        | .subscribe id _, some e => s.unsubscribe e id
        | _, _ => s

/-- TOKEN (R64, R65). -/
def execToken (dt : Time) (s : State) : Host.Outcome State Fault Refusal :=
  let s := s.elapse dt
  .next <|
    match s.takeUplink (fun b => match b with | .token _ => true | _ => false) with
    | none => s
    | some (r, s) =>
      if s.isStarting then s
      else
        let s := (s.sampleOf r).strayTest r
        match r.body with
        | .token t => s.takeToken r.client t
        | _ => s

/-! ## Timers of entries and sightings (R5, R12) and releases (R20) -/

/-- INACTIVITY_EXPIRY (R12). -/
def execInactivityExpiry (dt : Time) (client : ClientId) (s : State) : Host.Outcome State Fault Refusal :=
  .next ((s.elapse dt).removeIfInactive client)

/-- SIGHTING_EXPIRY (R5): a sighting is removed 10 s after its last update, whatever its status. -/
def execSightingExpiry (dt : Time) (client : ClientId) (s : State) : Host.Outcome State Fault Refusal :=
  let s := s.elapse dt
  .next <|
    match s.findSighting client with
    | some g => if s.reached g.removal then s.eraseSighting client else s
    | none => s

/-- BACKOFF_EXPIRY (R5): a BACKOFF sighting becomes SEEN when its back-off expiry is reached. -/
def execBackoffExpiry (dt : Time) (client : ClientId) (s : State) : Host.Outcome State Fault Refusal :=
  let s := s.elapse dt
  .next <|
    match s.findSighting client with
    | some g =>
      match g.status with
      | .backoff expiry =>
        if s.reached expiry then s.updateSighting client (fun g => { g with status := .seen }) else s
      | .seen => s
    | none => s

/-- SEAT_RELEASED (R20): the AU takes a received release. -/
def execSeatReleased (dt : Time) (s : State) : Host.Outcome State Fault Refusal :=
  let s := s.elapse dt
  .next <|
    match s.takeFrame .associationUnit (fun f => f.kind == .seatReleased) with
    | none => s
    | some (f, s) =>
      match f.message with
      | some (.seatReleased c serial seat) => if s.isStarting then s else s.releaseBinding c serial seat
      | _ => s

end Sys2Proof.Machine
end

