-- ==== Sys2Proof/Machine/Streams.lean ====
section
/-! DEFINITION. The Replay Unit's commands (chapters 6 and 7): stream announcements, segments, slot starts, the cycle end and
BLOCK_RESET REPLAY. -/

namespace Sys2Proof.Machine

/-! ## Stream announcements (R103 to R106) -/

/-- The status a STREAM_ANNOUNCE's payload names. -/
def streamStatusOf (f : RxFrame) : Option StreamStatus := enumAt StreamStatus.table f.payload 3

/-- The RU takes a STREAM_ANNOUNCE of a status. One whose status names nothing is taken and discarded (R201; log 11). -/
def State.takeAnnounce (s : State) (st : StreamStatus) : Option (RxFrame × State) :=
  s.takeFrame .replayUnit fun f =>
    f.kind == .streamAnnounce && (streamStatusOf f == some st || streamStatusOf f == none)

/-- What a STREAM_ANNOUNCE that the RU acts on says: the node is not STARTING, the source is station 30, the stream ID is not 0
(R103), and every field names something (R201). -/
def State.announced (s : State) (f : RxFrame) : Option (StreamId × Tier × Fill × StreamStatus) :=
  if s.isStarting || f.source != gateway then none
  else
    match f.message with
    | some (.streamAnnounce id tier fill st) => if id = 0 then none else some (id, tier, fill, st)
    | _ => none

/-- A new catalogue entry (R102, R104). `now` is the event at which the Replay Unit takes the announcement: the model's reading of
'the time of the announcement' (DESIGN CHOICE, log 29). -/
def StreamEntry.fresh (id : StreamId) (tier : Tier) (fill : Fill) (now : Time) : StreamEntry :=
  { id := id, tier := tier, fill := fill, activity := .dormant, ended := false, subscribers := 0, airGroup := none,
    next := none, underrunRun := 0, lastAnnounced := now, joinMarker := false, aired := none, unaired := [] }

/-- A DORMANT entry's rank for replacement: the earliest last-announced time, then the lowest stream ID (R104). -/
def StreamEntry.replacementRank (e : StreamEntry) : Nat := e.lastAnnounced * 2 ^ 8 + e.id

/-- A stream that the catalogue does not hold is inserted, in the place of a DORMANT one when the catalogue is full (R104). -/
def State.insertStream (s : State) (e : StreamEntry) : State :=
  let put (s : State) : State := s.setRu { s.ru with catalogue := putBy (fun x => x.id) e s.ru.catalogue }
  if s.ru.catalogue.length < cataloguePlaces then put s
  else
    match minBy StreamEntry.replacementRank (s.ru.catalogue.filter (fun x => x.activity == .dormant)) with
    | some old => put (s.deleteStream old.id)
    | none => s

/-- A LIVE announcement of a held stream (R105). `now` is the event at which the Replay Unit takes the frame: the model's reading of
'the time of the frame' (DESIGN CHOICE, log 29). -/
def StreamEntry.reannounced (tier : Tier) (fill : Fill) (now : Time) (e : StreamEntry) : StreamEntry :=
  { e with tier := tier, fill := fill, lastAnnounced := now, ended := false }

/-- A LIVE announcement (R104, R105). Its time is that of the event at which the Replay Unit takes it, not that of its storing (R168):
the spec does not say which (DESIGN CHOICE, log 29). -/
def State.announceLive (s : State) (id : StreamId) (tier : Tier) (fill : Fill) : State :=
  match s.findStream id with
  | none => s.insertStream (StreamEntry.fresh id tier fill s.now)
  | some _ => s.updateStream id (StreamEntry.reannounced tier fill s.now)

/-- STREAM_ANNOUNCE_LIVE (R103 to R105). -/
def execStreamAnnounceLive (dt : Time) (s : State) : Host.Outcome State Fault Refusal :=
  let s := s.elapse dt
  .next <|
    match s.takeAnnounce .live with
    | none => s
    | some (f, s) =>
      match s.announced f with
      | some (id, tier, fill, .live) => s.announceLive id tier fill
      | _ => s

/-- The clients whose counted entries hold a stream (R106, R113). -/
def State.subscribersOf (s : State) (id : StreamId) : List ClientId :=
  (s.au.clients.filter (fun e => e.state.counted && e.subscriptions.contains id)).map (·.id)

/-- Every subscriber of an ended stream loses it and is told ENDED (R106), in an order nothing is known of (log 9). -/
def State.endSubscriptions (s : State) (id : StreamId) : State :=
  let order := s.freeOrder (s.subscribersOf id)
  order.foldl (fun s c => s.withdrawStream c .ended id) s.drawn

/-- An ENDED announcement of a stream, by its activity at the time of the announcement (R106). -/
def State.announceEnded (s : State) (id : StreamId) : State :=
  match s.findStream id with
  | none => s
  | some e =>
    if e.ended then s
    else
      let s := s.endSubscriptions id
      match e.activity with
      | .active => s.updateStream id (fun e => { e with activity := .leaving, ended := true, joinMarker := false })
      | .dormant => s.deleteStream id
      | .joining => s.deleteStream id
      | .leaving => s.deleteStream id

/-- STREAM_ANNOUNCE_ENDED (R103, R106). -/
def execStreamAnnounceEnded (dt : Time) (s : State) : Host.Outcome State Fault Refusal :=
  let s := s.elapse dt
  .next <|
    match s.takeAnnounce .ended with
    | none => s
    | some (f, s) =>
      match s.announced f with
      | some (id, _, _, .ended) => s.announceEnded id
      | _ => s

/-! ## Segments (R115 to R117) -/

/-- The longest segment: 1,408 bytes (R115). -/
def longestSegment : Nat := 1408

/-- A stream holds at most 7 unaired segments (R115, R117). -/
def unairedPlaces : Nat := 7

/-- A sequence is LATE for a stream's next: (next − sequence) mod 65536 lies in 1..32768 (R116). -/
def late (next seq : Sequence) : Bool := decide (1 ≤ (next - seq).toNat ∧ (next - seq).toNat ≤ 32768)

/-- Steps 3 to 5 of R117 against a JOINING or ACTIVE stream. -/
def StreamEntry.discards (e : StreamEntry) (seq : Sequence) : Bool :=
  e.next.any (fun q => late q seq) || e.unaired.any (fun g => g.seq == seq) || decide (unairedPlaces ≤ e.unaired.length)

/-- A segment takes its place in the wrap-aware order, and sets next when it was unset (R115, R117). -/
def StreamEntry.cache (g : Segment) (e : StreamEntry) : StreamEntry :=
  let next := e.next.getD g.seq
  { e with next := some next, unaired := placeBy (fun x => (x.seq - next).toNat) g e.unaired }

/-- The stream takes segments: it is JOINING or ACTIVE (R117, step 2). -/
def StreamEntry.wanted (e : StreamEntry) : Bool := e.activity == .joining || e.activity == .active

/-- The five tests of segment acceptance (R117), in order: form, unwanted, LATE, duplicate, depth. -/
def State.acceptsSegment (s : State) (source : Station) (id : StreamId) (seq : Sequence) (len : Nat) (data : List Byte) : Bool :=
  source == gateway && decide (1 ≤ len ∧ len ≤ longestSegment) && data.length == len &&
    (s.findStream id).any (fun e => e.wanted && !e.discards seq)

/-- A segment is cached, or discarded with SEGMENTS_DISCARDED (R117). -/
def State.takeSegment (s : State) (source : Station) (id : StreamId) (seq : Sequence) (len : Nat) (data : List Byte) : State :=
  if s.acceptsSegment source id seq len data then
    s.updateStream id (StreamEntry.cache { seq := seq, data := data })
  else s.count .segmentsDiscarded

/-- SEGMENT (R117). -/
def execSegment (dt : Time) (s : State) : Host.Outcome State Fault Refusal :=
  let s := s.elapse dt
  .next <|
    match s.takeFrame .replayUnit (fun f => f.kind == .segment) with
    | none => s
    | some (f, s) =>
      match f.message with
      | some (.segment id seq len data) => if s.isStarting then s else s.takeSegment f.source id seq len data
      | _ => s

/-! ## Slot starts and the cycle end (R124, R125, R133) -/

/-- The slot that starts next in a running cycle. -/
def State.nextSlot (s : State) : Nat := s.ru.cycle.slot.elim 0 (· + 1)

/-- The time k × T ms after the cycle start (R124). -/
def State.slotTime (s : State) (k : Nat) : Time := s.ru.cycle.startedAt + millis (k * s.par.slotMs)

/-- The next slot of the running cycle is due (R124). -/
def State.slotDue (s : State) : Bool :=
  s.ru.cycle.running && decide (s.nextSlot < s.par.slots) && s.reached (s.slotTime s.nextSlot)

/-- SLOT_START (R125). -/
def execSlotStart (dt : Time) (s : State) : Host.Outcome State Fault Refusal :=
  let s := s.elapse dt
  .next (if s.slotDue then s.startSlot s.nextSlot else s)

/-- The running cycle has started its last slot and its end is due (R133). -/
def State.cycleEndDue (s : State) : Bool :=
  s.ru.cycle.running && decide (s.nextSlot = s.par.slots) && s.reached (s.slotTime s.par.slots)

/-- CYCLE_END (R133). -/
def execCycleEnd (dt : Time) (s : State) : Host.Outcome State Fault Refusal :=
  let s := s.elapse dt
  .next (if s.cycleEndDue then s.endCycle else s)

/-! ## BLOCK_RESET REPLAY (R119, R135) -/

/-- A stream's segments, aired and unaired, are freed (R118). -/
def StreamEntry.freed (e : StreamEntry) : StreamEntry := { e with aired := none, unaired := [] }

/-- A stream with a nonzero count becomes JOINING, its group kept (R119, step 4). -/
def StreamEntry.rejoined (e : StreamEntry) : StreamEntry :=
  if e.subscribers = 0 then e
  else { e with activity := .joining, next := none, underrunRun := 0, joinMarker := false }

/-- The Replay Unit's reset (R119, R135): cache freed, cycle STOPPED at offset 0, U = 0 handed over, LEAVING streams cleared,
counted streams JOINING, and a cycle start from STOPPED when any are. -/
def State.resetReplay (s : State) : State :=
  let s := s.setRu { s.ru with catalogue := s.ru.catalogue.map StreamEntry.freed }
  let s := s.setRu
    { s.ru with
      cycle := { s.ru.cycle with running := false, offset := 0, active := [], slot := none, units := 0 } }
  let s := s.handOverU 0
  let s := s.setRu { s.ru with catalogue := (clearLeaving s.ru.catalogue).map StreamEntry.rejoined }
  if s.ru.catalogue.any (fun e => e.activity == .joining) then s.startCycleFromStopped else s

/-- BLOCK_RESET_REPLAY (R119, R135). -/
def execBlockResetReplay (dt : Time) (s : State) : Host.Outcome State Fault Refusal :=
  let s := s.elapse dt
  .next <|
    match s.takeFrame .replayUnit (fun f => f.isReset .replay) with
    | none => s
    | some (_, s) => if s.isStarting then s else s.resetReplay

end Sys2Proof.Machine
end

