-- ==== Sys2Proof/Machine/Announce.lean ====
section
/-! DEFINITION. The peer table and the announcements (chapter 8), the Counter Bank's commands (chapter 11), the announcement period
boundary (R146) and the radio link's commands (R175, R178). -/

namespace Sys2Proof.Machine

/-! ## PRESENCE (R139, R141, R142) -/

/-- The seat block that a PRESENCE writes (R141). -/
def presenceBlock (cls : PeerClass) (block : Option SeatBlock) (defaulted : Bool) : Option SeatBlock :=
  if cls = .node ∧ defaulted = false then
    block.filter (fun b => decide (1 ≤ b.first ∧ b.first ≤ b.last ∧ b.last ≤ 999))
  else none

/-- A PRESENCE's source and class go together: NODE from 1..29, GATEWAY from 30 (R141; sources above 31, log 10). -/
def presenceSourceOk (source : Station) (cls : PeerClass) : Bool :=
  match cls with
  | .node => isNodeStation source
  | .gateway => source == gateway

/-- The entry that a PRESENCE writes, from the source's entry if it has one (R141). -/
def presenceEntry (old : Option PeerEntry) (source : Station) (cls : PeerClass) (block : Option SeatBlock) (storedAt : Time) :
    PeerEntry :=
  match old with
  | none =>
    { station := source, cls := cls, block := block, load := none, status := .live, lastFrame := storedAt, overlap := false }
  | some p => { p with cls := cls, block := block }

/-- Two seat blocks overlap (R142). -/
def SeatBlock.overlaps (own peer : SeatBlock) : Bool := decide (peer.first ≤ own.last ∧ own.first ≤ peer.last)

/-- The block that the node itself owns: none in the defaulted configuration (R142, R196). -/
def State.ownBlock (s : State) : Option SeatBlock := if s.sl.defaulted then none else s.par.block

/-- The overlap test's outcome for an entry (R142). -/
def State.findsOverlap (s : State) (p : PeerEntry) : Bool :=
  s.ownBlock.any (fun own => p.block.any own.overlaps)

/-- The source's peer entry. -/
def State.findPeer (s : State) (a : Station) : Option PeerEntry := s.anu.peers.find? (fun p => p.station == a)

/-- An entry takes its place in the peer table (R139). -/
def State.putPeer (s : State) (p : PeerEntry) : State :=
  s.setAnu { s.anu with peers := putBy (fun x => x.station) p s.anu.peers }

/-- A PRESENCE is applied (R141), with the overlap test after it (R142). -/
def State.takePresence (s : State) (f : RxFrame) (cls : PeerClass) (block : Option SeatBlock) (defaulted : Bool) : State :=
  if presenceSourceOk f.source cls then
    let p := presenceEntry (s.findPeer f.source) f.source cls (presenceBlock cls block defaulted) f.storedAt
    if s.findsOverlap p && !p.overlap then (s.putPeer { p with overlap := true }).armNotice .seatOverlap f.source
    else s.putPeer p
  else s

/-- PRESENCE (R141): discarded while STARTING (R154). -/
def execPresence (dt : Time) (s : State) : Host.Outcome State Fault Refusal :=
  let s := s.elapse dt
  .next <|
    match s.takeFrame .announcementUnit (fun f => f.kind == .presence) with
    | none => s
    | some (f, s) =>
      match f.message with
      | some (.presence cls block defaulted _) => if s.isStarting then s else s.takePresence f cls block defaulted
      | _ => s

/-! ## LOAD (R143) -/

/-- A LOAD that is applied: U 0..100, E 0..48, L 1..48 (R143). -/
def PeerLoad.ok (l : PeerLoad) : Bool := decide (l.occupancy ≤ 100 ∧ l.entries ≤ 48 ∧ 1 ≤ l.limit ∧ l.limit ≤ 48)

/-- A LOAD is applied to its source's entry (R143). -/
def State.takeLoad (s : State) (source : Station) (l : PeerLoad) : State :=
  if l.ok then
    s.setAnu
      { s.anu with peers := s.anu.peers.map (fun p => if p.station == source then { p with load := some l } else p) }
  else s

/-- LOAD (R143): discarded while STARTING (R154). -/
def execLoad (dt : Time) (s : State) : Host.Outcome State Fault Refusal :=
  let s := s.elapse dt
  .next <|
    match s.takeFrame .announcementUnit (fun f => f.kind == .load) with
    | none => s
    | some (f, s) =>
      match f.message with
      | some (.load u e l) =>
        if s.isStarting then s else s.takeLoad f.source { occupancy := u, entries := e, limit := l }
      | _ => s

/-! ## The Counter Bank's commands (R187, R191) -/

/-- HARVEST_REQUEST (R187): the HARVEST buffer is armed. -/
def execHarvestRequest (dt : Time) (s : State) : Host.Outcome State Fault Refusal :=
  let s := s.elapse dt
  .next <|
    match s.takeFrame .counterBank (fun f => f.kind == .harvestRequest) with
    | none => s
    | some (_, s) => if s.isStarting then s else s.armHarvest

/-- BLOCK_RESET_COUNTERS (R191): every counter 0, every flag clear, the snapshot zeros; mask and armed flag unchanged. -/
def execBlockResetCounters (dt : Time) (s : State) : Host.Outcome State Fault Refusal :=
  let s := s.elapse dt
  .next <|
    match s.takeFrame .counterBank (fun f => f.isReset .counters) with
    | none => s
    | some (_, s) => if s.isStarting then s else s.setCb { counters := CounterBank.zeros, snapshot := CounterBank.zeros }

/-! ## Ageing (R144) -/

/-- An entry after ageing, or none when it is removed (R144). -/
def PeerEntry.aged (now period : Time) (p : PeerEntry) : Option PeerEntry :=
  if p.lastFrame + 10 * period ≤ now then none
  else if p.status = .live ∧ p.lastFrame + 3 * period ≤ now then some { p with status := .stale }
  else some p

/-- Every peer entry is aged against the time of the boundary (R144). -/
def State.agePeers (s : State) : State :=
  s.setAnu { s.anu with peers := s.anu.peers.filterMap (PeerEntry.aged s.now s.period) }

/-! ## The announcement buffers' turns (R149, R150, R188) -/

/-- The gateway takes STREAM_WANT and HARVEST; PRESENCE and LOAD go to station 0 (R147). -/
def AnnounceKind.destination (k : AnnounceKind) : Station :=
  match k with
  | .presence => 0
  | .load => 0
  | .streamWant => gateway
  | .harvest => gateway

/-- An announcement frame of a kind. -/
def announcementFrame (k : AnnounceKind) : TxFrame := { destination := k.destination, body := .announcement k }

/-- Set or clear the skipped-last flag (R147). -/
def State.setSkipped (s : State) (k : AnnounceKind) (v : Bool) : State :=
  s.updateBuffer k (fun b => { b with skippedLast := v })

/-- Disarm a ONCE buffer (R149). -/
def State.disarm (s : State) (k : AnnounceKind) : State := s.updateBuffer k (fun b => { b with armed := false })

/-- The Counter Bank takes a snapshot (R188). -/
def State.takeSnapshot (s : State) : State := s.setCb { s.cb with snapshot := s.cb.counters }

/-- The transmit queue holds few enough frames for a BEST_EFFORT frame to be due (R149). -/
def bestEffortPlaces : Nat := 8

/-- The turn of a buffer of mode PERIODIC (R149, R150). -/
def State.periodicTurn (s : State) (k : AnnounceKind) : State :=
  if (s.anu.buffer k).queued then s else (s.handOver (announcementFrame k)).1

/-- The turn of a buffer of mode BEST_EFFORT (R149, R150). -/
def State.bestEffortTurn (s : State) (k : AnnounceKind) : State :=
  if (s.anu.buffer k).queued then s.setSkipped k false
  else if s.txCount ≤ bestEffortPlaces ∨ (s.anu.buffer k).skippedLast then
    let d := s.handOver (announcementFrame k)
    d.1.setSkipped k (!d.2)
  else s.setSkipped k true

/-- The turn of a buffer whose mode the station record gives (R149). -/
def State.modeTurn (s : State) (k : AnnounceKind) (mode : AnnounceMode) : State :=
  match mode with
  | .off => s
  | .periodic => s.periodicTurn k
  | .bestEffort => s.bestEffortTurn k

/-- A frame of an announcement kind is in a transmission attempt (R149, R160). -/
def State.attempting (s : State) (k : AnnounceKind) : Bool :=
  match s.rbc.tx with
  | .sending f _ _ => f.body == .announcement k
  | .idle => false
  | .defer _ _ _ => false

/-- What the Counter Bank does when a ONCE buffer's frame is queued or updated in place: for HARVEST, a new snapshot (R188). -/
def State.refreshContent (s : State) (k : AnnounceKind) : State :=
  match k with
  | .harvest => s.takeSnapshot
  | .presence => s
  | .load => s
  | .streamWant => s

/-- The turn of a buffer of mode ONCE (R149, R150, R188). A refused frame leaves the buffer armed and takes no snapshot; the
snapshot is copied once the frame is accepted, and nothing else changes the counters between. -/
def State.onceTurn (s : State) (k : AnnounceKind) : State :=
  if (s.anu.buffer k).armed then
    if (s.anu.buffer k).queued then (if s.attempting k then s else (s.refreshContent k).disarm k)
    else
      let d := s.handOver (announcementFrame k)
      if d.2 then (d.1.refreshContent k).disarm k else d.1
  else s

/-- A notice's frame (R153). -/
def Notice.frame (n : Notice) : TxFrame := { destination := gateway, body := .message (.notice n.kind n.subject) }

/-- A pending notice is handed over; accepted, it leaves the list (R153). -/
def State.sendNotice (s : State) (n : Notice) : State :=
  let d := s.handOver n.frame
  if d.2 then d.1.setAnu { d.1.anu with notices := d.1.anu.notices.filter (fun x => x != n) } else d.1

/-- The pending notices are handed over one at a time, oldest first (R153; log 25). -/
def State.sendNotices (s : State) : State := s.anu.notices.foldl State.sendNotice s

/-- The four buffers in their order, then the notices (R149, R153). A SILENT node queues nothing and keeps its buffers (R154). -/
def State.announce (s : State) : State :=
  if s.sl.nodeState = .silent then s
  else
    let s := s.modeTurn .presence s.par.presenceMode
    let s := s.modeTurn .load s.par.loadMode
    let s := s.onceTurn .streamWant
    let s := s.onceTurn .harvest
    s.sendNotices

/-! ## The away check (R81) and the listening count (R198) -/

/-- An OCCUPIED seat whose client has not been found present for the away time becomes AWAY (R81). -/
def SeatRecord.leaveSeat (now away : Time) (r : SeatRecord) : SeatRecord :=
  match r.state with
  | .bound .occupied h => if r.lastPresent + away ≤ now then { r with state := .bound .away h } else r
  | _ => r

/-- The away check of every seat (R81). -/
def State.awayCheck (s : State) : State :=
  s.setSv { s.sv with seats := s.sv.seats.map (SeatRecord.leaveSeat s.now (seconds s.par.awaySeconds)) }

/-- The boundaries of the listening phase (R198). -/
def listeningBoundaries : Nat := 3

/-- A boundary taken in LISTENING is counted, and the third makes the node RUNNING (R198). -/
def State.countListening (s : State) : State :=
  if s.sl.nodeState = .listening then
    let n := s.sl.listeningCount + 1
    s.setSl { s.sl with listeningCount := n, nodeState := if n = listeningBoundaries then .running else .listening }
  else s

/-- The announcement period boundary, in the model's order of its parts (R146; log 20). -/
def State.boundary (s : State) (due : Time) : State :=
  let s := s.setAnu { s.anu with nextBoundary := some (due + s.period) }
  s.agePeers.announce.awayCheck.countListening

/-- ANNOUNCEMENT_PERIOD_BOUNDARY (R146): the boundary is taken when it is due; the next comes P after it was due. -/
def execAnnouncementPeriodBoundary (dt : Time) (s : State) : Host.Outcome State Fault Refusal :=
  let s := s.elapse dt
  .next <|
    match s.anu.nextBoundary with
    | some due => if s.reached due then s.boundary due else s
    | none => s

/-! ## The radio link's commands (R175, R178) -/

/-- RADIO_READY (R175): the radio unit signals ready, and the transfer of the oldest record starts. -/
def execRadioReady (dt : Time) (s : State) : Host.Outcome State Fault Refusal :=
  let s := s.elapse dt
  .next (s.setRp { s.rp with ready := true }).startTransfer

/-- RADIO_READY_WITHDRAWN (R175): a transfer that has started runs to completion. -/
def execRadioReadyWithdrawn (dt : Time) (s : State) : Host.Outcome State Fault Refusal :=
  let s := s.elapse dt
  .next (s.setRp { s.rp with ready := false })

/-- The queue and the held-reply list after the oldest record has left: the oldest held reply takes the place (R178). -/
def RadioPort.completed (p : RadioPort) : RadioPort :=
  match p.held with
  | h :: rest => { p with downlink := p.downlink.drop 1 ++ [h], held := rest, transfer := .idle }
  | [] => { p with downlink := p.downlink.drop 1, transfer := .idle }

/-- DOWNLINK_TRANSFER_COMPLETE (R178): the record leaves, the oldest held reply enters, and the next transfer starts when the radio
unit is ready (R175). -/
def execDownlinkTransferComplete (dt : Time) (s : State) : Host.Outcome State Fault Refusal :=
  let s := s.elapse dt
  .next <|
    match s.rp.transfer with
    | .sending _ => (s.setRp s.rp.completed).startTransfer
    | .idle => s

end Sys2Proof.Machine
end

