-- ==== Sys2Proof/Machine/StartUp.lean ====
section
/-! DEFINITION. The Start-up Loader (chapter 12): reset, the strap, the station record, leaving STARTING. -/

namespace Sys2Proof.Machine

/-! ## The station record (R194, R195, section 13.6) -/

/-- The marker of a station record (13.6). -/
def recordMarker : Nat := 0xD7A1

/-- Bytes of a station record (13.6). -/
def recordLength : Nat := 33

/-- A record of these bytes is usable (R194): whole (log 22), marked, with its check word, and with a row code. -/
def recordUsable (r : List Byte) : Bool :=
  r.length == recordLength && fieldAt r 0 2 == recordMarker &&
    crc16 0xFFFF#16 (r.take 31) == BitVec.ofNat 16 (fieldAt r 31 2) && fieldAt r 2 2 != 0

/-- A field outside its range takes the nearer bound (R195). -/
def clampNat (lo hi n : Nat) : Nat := max lo (min hi n)

/-- A signed field outside its range takes the nearer bound (R195). -/
def clampInt (lo hi n : Int) : Int := max lo (min hi n)

/-- Seats a seat block holds at most (R195). -/
def blockSeats : Nat := 24

/-- The seat block, settled in steps (R195). -/
def settleBlock (first last : Nat) : Option SeatBlock :=
  if first = 0 then none
  else
    let f := clampNat 1 999 first
    let l := clampNat 1 999 last
    if l < f then none else some { first := f, last := min l (f + (blockSeats - 1)) }

/-- A PRESENCE mode byte: OFF and a byte that names nothing are taken as BEST_EFFORT (R195). -/
def presenceModeAt (r : List Byte) (at_ : Nat) : AnnounceMode :=
  match enumAt AnnounceMode.table r at_ with
  | some .periodic => .periodic
  | _ => .bestEffort

/-- A LOAD mode byte: one that names nothing takes the default BEST_EFFORT (R195). -/
def loadModeAt (r : List Byte) (at_ : Nat) : AnnounceMode := (enumAt AnnounceMode.table r at_).getD .bestEffort

/-- The station parameters that a usable record gives (R195). -/
def paramsOf (r : List Byte) : Params :=
  { codes := some
      { rowCode := BitVec.ofNat 16 (fieldAt r 2 2), matchCode := BitVec.ofNat 16 (fieldAt r 4 2),
        matchKey := BitVec.ofNat 16 (fieldAt r 6 2) },
    block := settleBlock (fieldAt r 8 2) (fieldAt r 10 2),
    limit := clampNat 1 48 (fieldAt r 12 1),
    joinFloor := clampInt (-100) (-40) (signedAt r 13),
    presenceThreshold := clampInt (-90) (-30) (signedAt r 14),
    margin := fieldAt r 15 1,
    claimFloor := clampNat 0 1010 (fieldAt r 16 2),
    periodMs := clampNat 50 1000 (fieldAt r 18 2),
    presenceMode := presenceModeAt r 20,
    loadMode := loadModeAt r 21,
    slots := clampNat 2 32 (fieldAt r 22 1),
    slotMs := clampNat 2 20 (fieldAt r 23 1),
    mask := BitVec.ofNat 24 (fieldAt r 24 3),
    holdSeconds := clampNat 30 600 (fieldAt r 27 2),
    awaySeconds := clampNat 60 1800 (fieldAt r 29 2) }

/-! ## Leaving STARTING (R197) -/

/-- Every masked counter is set to 0 with its flag clear (R185). -/
def maskCounters (mask : BitVec 24) (counters : Vector Counter 24) : Vector Counter 24 :=
  Vector.ofFn fun i => if mask.getLsbD i.val then { value := 0, saturated := false } else counters.get i

/-- The station parameters take effect in every block (R197, step 2; R73, R185), and the period clock starts (R146). -/
def State.applyParams (s : State) (p : Params) : State :=
  let s := s.setSl { s.sl with params := some p, readStarted := none }
  let s := s.setSv { s.sv with seats := seatTable p.block }
  let s := s.setCb { s.cb with counters := maskCounters p.mask s.cb.counters }
  s.setAnu { s.anu with nextBoundary := some (s.now + millis p.periodMs) }

/-- The node leaves STARTING for LISTENING (R197), with the parameters of a record, or the defaulted configuration (R196). -/
def State.enterListening (s : State) (p : Option Params) : State :=
  let s := s.setSl { s.sl with nodeState := .listening, listeningCount := 0, defaulted := p.isNone }
  let s := s.applyParams (p.getD Params.default)
  let s := (s.handOver (announcementFrame .presence)).1
  if p.isNone then s.armNotice .configDefaulted 0 else s

/-- The node leaves STARTING for SILENT (R197): every field at its default, no seats; the defaulted flag stays clear (log 15). -/
def State.enterSilent (s : State) : State :=
  (s.setSl { s.sl with nodeState := .silent }).applyParams Params.default

/-! ## Reset (R193) -/

/-- A strap value that is accepted as the own address: 1..29 (R193). -/
def strapAddress (strap : BitVec 5) : Option Station := if isNodeStation strap.toNat then some strap.toNat else none

/-- The strap is read on entering STARTING: an accepted address starts the read of the record, any other value ends in SILENT (R193). -/
def State.readStrap (s : State) (strap : BitVec 5) : State :=
  match strapAddress strap with
  | some a => s.setSl { s.sl with ownAddress := some a, readStarted := some s.now }
  | none => s.enterSilent

/-- Every block at its power-on values, with the line and the ready signal as given (R193; logs 1, 6, 9). -/
def State.powerOn (s : State) (quietSince : Option Time) (ready : Bool) : State :=
  { now := s.now, pending := s.pending, freeCount := s.freeCount, sl := StartUp.initial, au := Association.initial,
    sv := SeatValidator.initial, ru := ReplayUnit.initial, anu := Announcement.initial, cb := CounterBank.initial,
    rbc := RowBus.initial quietSince, rp := RadioPort.initial ready }

/-- POWER_ON_RESET (R193). -/
def execPowerOnReset (dt : Time) (strap : BitVec 5) (s : State) : Host.Outcome State Fault Refusal :=
  let s := s.elapse dt
  .next ((s.powerOn (some s.now) false).readStrap strap)

/-- The line right after the RESET pin: as it was, but quiet from now where the node itself was driving it (logs 6, 7). -/
def State.lineAfterReset (s : State) : Option Time := if s.rbc.tx.isSending then some s.now else s.rbc.quietSince

/-- RESET_PIN (R193): taken in any node state; the line and the radio unit's ready signal stay as they are. -/
def execResetPin (dt : Time) (strap : BitVec 5) (s : State) : Host.Outcome State Fault Refusal :=
  let s := s.elapse dt
  .next ((s.powerOn s.lineAfterReset s.rp.ready).readStrap strap)

/-! ## The end of the read (R194) -/

/-- The time the record may take to arrive: 10 ms (R194). -/
def readTime : Time := millis 10

/-- A read of the record is in progress since this time. -/
def State.reading (s : State) : Option Time := if s.isStarting then s.sl.readStarted else none

/-- STATION_RECORD_READ_DONE (R194): the record is applied if it is usable and in time; else the configuration is defaulted. -/
def execStationRecordReadDone (dt : Time) (record : List Byte) (s : State) : Host.Outcome State Fault Refusal :=
  let s := s.elapse dt
  .next <|
    match s.reading with
    | some started =>
      s.enterListening (if recordUsable record && decide (s.now ≤ started + readTime) then some (paramsOf record) else none)
    | none => s

/-- STATION_RECORD_READ_TIMEOUT (R194, R196): 10 ms after the read began the record is missing. -/
def execStationRecordReadTimeout (dt : Time) (s : State) : Host.Outcome State Fault Refusal :=
  let s := s.elapse dt
  .next <|
    match s.reading with
    | some started => if s.reached (started + readTime) then s.enterListening none else s
    | none => s

end Sys2Proof.Machine
end

