-- ==== Sys2Proof/Machine/Dispatch.lean ====
section
/-! DEFINITION. The dispatch: one arm per command, each a direct call of its meaning. -/

namespace Sys2Proof.Machine

/-- A command's effect on everything but the queue of waiting commands. -/
def exec (i : Instr) (s : State) : Host.Outcome State Fault Refusal :=
  match i with
  | .powerOnReset dt strap => Sys2Proof.Machine.execPowerOnReset dt strap s
  | .resetPin dt strap => Sys2Proof.Machine.execResetPin dt strap s
  | .stationRecordReadDone dt record => Sys2Proof.Machine.execStationRecordReadDone dt record s
  | .stationRecordReadTimeout dt => Sys2Proof.Machine.execStationRecordReadTimeout dt s
  | .announcementPeriodBoundary dt => Sys2Proof.Machine.execAnnouncementPeriodBoundary dt s
  | .uplinkRecordArrival dt record => Sys2Proof.Machine.execUplinkRecordArrival dt record s
  | .heard dt => Sys2Proof.Machine.execHeard dt s
  | .joinRequest dt => Sys2Proof.Machine.execJoinRequest dt s
  | .leave dt => Sys2Proof.Machine.execLeave dt s
  | .capsPiece dt => Sys2Proof.Machine.execCapsPiece dt s
  | .subscribeOn dt => Sys2Proof.Machine.execSubscribeOn dt s
  | .subscribeOff dt => Sys2Proof.Machine.execSubscribeOff dt s
  | .token dt => Sys2Proof.Machine.execToken dt s
  | .inactivityExpiry dt client => Sys2Proof.Machine.execInactivityExpiry dt client s
  | .sightingExpiry dt client => Sys2Proof.Machine.execSightingExpiry dt client s
  | .backoffExpiry dt client => Sys2Proof.Machine.execBackoffExpiry dt client s
  | .roamClaim dt => Sys2Proof.Machine.execRoamClaim dt s
  | .roamGrant dt => Sys2Proof.Machine.execRoamGrant dt s
  | .roamDeny dt => Sys2Proof.Machine.execRoamDeny dt s
  | .roamReturn dt => Sys2Proof.Machine.execRoamReturn dt s
  | .clientMoved dt => Sys2Proof.Machine.execClientMoved dt s
  | .contextReply dt => Sys2Proof.Machine.execContextReply dt s
  | .claimTimerExpiry dt client => Sys2Proof.Machine.execClaimTimerExpiry dt client s
  | .roamInTimerExpiry dt client => Sys2Proof.Machine.execRoamInTimerExpiry dt client s
  | .grantTimerExpiry dt client => Sys2Proof.Machine.execGrantTimerExpiry dt client s
  | .holdDownExpiry dt client => Sys2Proof.Machine.execHoldDownExpiry dt client s
  | .contextWaitExpiry dt client => Sys2Proof.Machine.execContextWaitExpiry dt client s
  | .tokenForward dt => Sys2Proof.Machine.execTokenForward dt s
  | .tokenResult dt => Sys2Proof.Machine.execTokenResult dt s
  | .pendingTokenTimerExpiry dt client serial => Sys2Proof.Machine.execPendingTokenTimerExpiry dt client serial s
  | .seatHoldExpiry dt seat => Sys2Proof.Machine.execSeatHoldExpiry dt seat s
  | .seatReleased dt => Sys2Proof.Machine.execSeatReleased dt s
  | .authorityTimerExpiry dt seat => Sys2Proof.Machine.execAuthorityTimerExpiry dt seat s
  | .authorityAnswerKeep dt => Sys2Proof.Machine.execAuthorityAnswerKeep dt s
  | .authorityAnswerReplace dt => Sys2Proof.Machine.execAuthorityAnswerReplace dt s
  | .authorityAnswerBlock dt => Sys2Proof.Machine.execAuthorityAnswerBlock dt s
  | .authorityAnswerUnblock dt => Sys2Proof.Machine.execAuthorityAnswerUnblock dt s
  | .matchStateOpen dt => Sys2Proof.Machine.execMatchStateOpen dt s
  | .matchStateClosed dt => Sys2Proof.Machine.execMatchStateClosed dt s
  | .blockResetRoam dt => Sys2Proof.Machine.execBlockResetRoam dt s
  | .blockResetTicket dt => Sys2Proof.Machine.execBlockResetTicket dt s
  | .blockResetReplay dt => Sys2Proof.Machine.execBlockResetReplay dt s
  | .blockResetCounters dt => Sys2Proof.Machine.execBlockResetCounters dt s
  | .streamAnnounceLive dt => Sys2Proof.Machine.execStreamAnnounceLive dt s
  | .streamAnnounceEnded dt => Sys2Proof.Machine.execStreamAnnounceEnded dt s
  | .segment dt => Sys2Proof.Machine.execSegment dt s
  | .slotStart dt => Sys2Proof.Machine.execSlotStart dt s
  | .cycleEnd dt => Sys2Proof.Machine.execCycleEnd dt s
  | .presence dt => Sys2Proof.Machine.execPresence dt s
  | .load dt => Sys2Proof.Machine.execLoad dt s
  | .harvestRequest dt => Sys2Proof.Machine.execHarvestRequest dt s
  | .frameReceived dt bytes => Sys2Proof.Machine.execFrameReceived dt bytes s
  | .lineBusy dt => Sys2Proof.Machine.execLineBusy dt s
  | .deferralComplete dt => Sys2Proof.Machine.execDeferralComplete dt s
  | .txCollision dt => Sys2Proof.Machine.execTxCollision dt s
  | .txComplete dt => Sys2Proof.Machine.execTxComplete dt s
  | .radioReady dt => Sys2Proof.Machine.execRadioReady dt s
  | .downlinkTransferComplete dt => Sys2Proof.Machine.execDownlinkTransferComplete dt s
  | .radioReadyWithdrawn dt => Sys2Proof.Machine.execRadioReadyWithdrawn dt s

end Sys2Proof.Machine
end

