-- ==== Sys2Proof/Safety.lean ====
section
/-! DEFINITION. The terms claims use: what a command finds in the queues, which messages a frame can carry, and what a good state of
the node is: the limits and relations that the manual states of the machine as a whole. Each is kept by every step from every state
that has it, reachable or not. -/

namespace Sys2Proof.Machine

/-! ## What a command finds -/

/-- The ticks that pass up to a command (log 1). -/
def elapsedBy (c : Instr) : Time :=
  match c with
  | .powerOnReset dt _ | .resetPin dt _ | .stationRecordReadDone dt _ | .stationRecordReadTimeout dt
  | .announcementPeriodBoundary dt | .uplinkRecordArrival dt _ | .heard dt | .joinRequest dt | .leave dt | .capsPiece dt
  | .subscribeOn dt | .subscribeOff dt | .token dt | .inactivityExpiry dt _ | .sightingExpiry dt _ | .backoffExpiry dt _
  | .roamClaim dt | .roamGrant dt | .roamDeny dt | .roamReturn dt | .clientMoved dt | .contextReply dt
  | .claimTimerExpiry dt _ | .roamInTimerExpiry dt _ | .grantTimerExpiry dt _ | .holdDownExpiry dt _
  | .contextWaitExpiry dt _ | .tokenForward dt | .tokenResult dt | .pendingTokenTimerExpiry dt _ _ | .seatHoldExpiry dt _
  | .seatReleased dt | .authorityTimerExpiry dt _ | .authorityAnswerKeep dt | .authorityAnswerReplace dt
  | .authorityAnswerBlock dt | .authorityAnswerUnblock dt | .matchStateOpen dt | .matchStateClosed dt | .blockResetRoam dt
  | .blockResetTicket dt | .blockResetReplay dt | .blockResetCounters dt | .streamAnnounceLive dt
  | .streamAnnounceEnded dt | .segment dt | .slotStart dt | .cycleEnd dt | .presence dt | .load dt | .harvestRequest dt
  | .frameReceived dt _ | .lineBusy dt | .deferralComplete dt | .txCollision dt | .txComplete dt | .radioReady dt
  | .downlinkTransferComplete dt | .radioReadyWithdrawn dt => dt

/-- The oldest stored frame of a block (R169). -/
def State.oldestFor (s : State) (b : Block) : Option RxFrame := s.rbc.rxQueue.find? (fun f => f.block == some b)

/-- The receive queue once a block has taken its oldest frame (R168, R169). -/
def State.released (s : State) (b : Block) : State :=
  s.setRbc { s.rbc with rxQueue := s.rbc.rxQueue.eraseP (fun f => f.block == some b) }

/-- The oldest stored frame of a block is from this source and carries this message (R169, R202). -/
def State.carries (s : State) (b : Block) (source : Station) (m : Message) : Prop :=
  ∃ f, s.oldestFor b = some f ∧ f.source = source ∧ f.kind = m.kind ∧ f.message = some m

/-- The uplink queue once its oldest record has been taken (R173). -/
def State.recordTaken (s : State) : State := s.setRp { s.rp with uplink := s.rp.uplink.tail }

/-- A frame that carries a message. -/
def frameOf (destination : Station) (m : Message) : TxFrame := { destination := destination, body := .message m }

/-- The command that takes an uplink record of this body (R173). -/
def UplinkBody.command (dt : Time) (b : UplinkBody) : Instr :=
  match b with
  | .heard => .heard dt
  | .joinRequest => .joinRequest dt
  | .leave => .leave dt
  | .capsPiece _ _ _ => .capsPiece dt
  | .subscribe _ true => .subscribeOn dt
  | .subscribe _ false => .subscribeOff dt
  | .token _ => .token dt

/-- The block that takes a frame with this message, and the command by which it does; none where no block of the node does (R169). -/
def Message.command (dt : Time) (m : Message) : Option (Block × Instr) :=
  match m with
  | .roamClaim _ _ => some (.roamEngine, .roamClaim dt)
  | .roamGrant _ _ => some (.roamEngine, .roamGrant dt)
  | .roamDeny _ _ _ => some (.roamEngine, .roamDeny dt)
  | .roamReturn _ => some (.roamEngine, .roamReturn dt)
  | .clientMoved _ _ => some (.roamEngine, .clientMoved dt)
  | .contextReply _ _ => some (.roamEngine, .contextReply dt)
  | .tokenForward _ _ => some (.seatValidator, .tokenForward dt)
  | .tokenResult _ _ _ _ => some (.seatValidator, .tokenResult dt)
  | .seatReleased _ _ _ => some (.associationUnit, .seatReleased dt)
  | .authorityAnswer _ .keep => some (.seatValidator, .authorityAnswerKeep dt)
  | .authorityAnswer _ .replace => some (.seatValidator, .authorityAnswerReplace dt)
  | .authorityAnswer _ .block => some (.seatValidator, .authorityAnswerBlock dt)
  | .authorityAnswer _ .unblock => some (.seatValidator, .authorityAnswerUnblock dt)
  | .presence _ _ _ _ => some (.announcementUnit, .presence dt)
  | .load _ _ _ => some (.announcementUnit, .load dt)
  | .segment _ _ _ _ => some (.replayUnit, .segment dt)
  | .streamAnnounce _ _ _ .live => some (.replayUnit, .streamAnnounceLive dt)
  | .streamAnnounce _ _ _ .ended => some (.replayUnit, .streamAnnounceEnded dt)
  | .harvestRequest => some (.counterBank, .harvestRequest dt)
  | .matchState .opened => some (.seatValidator, .matchStateOpen dt)
  | .matchState .closed => some (.seatValidator, .matchStateClosed dt)
  | .blockReset .roam => some (.associationUnit, .blockResetRoam dt)
  | .blockReset .ticket => some (.seatValidator, .blockResetTicket dt)
  | .blockReset .replay => some (.replayUnit, .blockResetReplay dt)
  | .blockReset .counters => some (.counterBank, .blockResetCounters dt)
  | .authorityQuery _ _ _ _ => none
  | .streamWant _ => none
  | .harvest _ => none
  | .notice _ _ => none

/-! ## Messages that a row frame can carry (R201, R202) -/

/-- The fields of a holder fit their bytes. -/
def Holder.fits (h : Holder) : Prop := h.origin < 256

/-- The fields of a capability record fit a context (13.4). -/
def CapRecord.fits (r : CapRecord) : Prop :=
  1 ≤ r.maxSubscriptions ∧ r.maxSubscriptions ≤ 4 ∧ 4 ≤ r.bytes.length ∧ r.bytes.length ≤ 64

/-- A context that R202 accepts. -/
def Context.fits (x : Context) : Prop :=
  x.bindings.length ≤ 4 ∧ x.subscriptions.length ≤ 4 ∧ (∀ r, x.record = some r → r.fits) ∧
    (∀ b ∈ x.bindings, b.serial ≠ 0 ∧ 1 ≤ b.seat ∧ b.seat ≤ 999 ∧ b.owner < 256) ∧ (x.bindings.map (·.serial)).Nodup ∧
    (∀ i ∈ x.subscriptions, 1 ≤ i ∧ i < 256) ∧ x.subscriptions.Nodup

/-- A message whose every field fits its bytes, within the lengths and counts of R202. -/
def Message.fits (m : Message) : Prop :=
  match m with
  | .roamClaim _ n => n < 65536
  | .roamGrant _ x => x.fits
  | .roamDeny _ _ n => n < 65536
  | .roamReturn _ => True
  | .clientMoved _ _ => True
  | .contextReply _ none => True
  | .contextReply _ (some x) => x.fits
  | .tokenForward _ t => t.seat < 65536
  | .tokenResult _ _ seat _ => seat < 65536
  | .seatReleased _ _ seat => seat < 65536
  | .authorityQuery seat _ i c => seat < 65536 ∧ i.fits ∧ c.fits
  | .authorityAnswer seat _ => seat < 65536
  | .presence _ none _ _ => True
  | .presence _ (some b) _ _ => b.first < 65536 ∧ b.last < 65536
  | .load u e l => u < 256 ∧ e < 256 ∧ l < 256
  | .streamWant ids => ids.length ≤ 8 ∧ ∀ i ∈ ids, i < 256
  | .harvest v => ∀ k : Fin 24, (v.get k).value < 2 ^ 20
  | .notice _ subject => subject < 65536
  | .segment stream _ len data => stream < 256 ∧ len < 65536 ∧ data.length ≤ 1475
  | .streamAnnounce stream _ _ _ => stream < 256
  | .harvestRequest => True
  | .matchState _ => True
  | .blockReset _ => True

/-! ## The radio link (R172, R175, R176) -/

/-- The queues keep their places; a reply is held only while the downlink queue is full; the record in transfer is the oldest and keeps
its place; and nothing waits while the radio unit is ready and no transfer runs. -/
def RadioPort.ordered (p : RadioPort) : Prop :=
  p.uplink.length ≤ uplinkPlaces ∧ p.downlink.length ≤ downlinkPlaces ∧ p.held.length ≤ heldPlaces ∧
    (p.held ≠ [] → p.downlink.length = downlinkPlaces) ∧
    (∀ bytes, p.transfer = .sending bytes → ∃ r rest, p.downlink = r :: rest ∧ bytes = r.bytes) ∧
    (p.transfer = .idle → p.ready = true → p.downlink = [])

/-! ## The counters (R182, R185, R189) -/

/-- No counter exceeds 1,048,575; every counter holds at least its snapshot value; a masked counter holds 0 with its flag clear; and
while the node is STARTING the snapshot is zeros and no boundary is due. -/
def State.countersOrdered (s : State) : Prop :=
  (∀ k : Fin 24,
      (s.cb.counters.get k).value ≤ counterMax ∧ (s.cb.snapshot.get k).value ≤ (s.cb.counters.get k).value ∧
        (s.par.mask.getLsbD k = true → s.cb.counters.get k = { value := 0, saturated := false })) ∧
    (s.sl.nodeState = .starting → s.cb.snapshot = CounterBank.zeros ∧ s.anu.nextBoundary = none)

/-! ## The row bus (R147, R157, R160, R163, R168) -/

/-- The attempt count of the frame in hand (R160). -/
def Transmitter.attempts (t : Transmitter) : Nat :=
  match t with
  | .idle => 0
  | .defer _ n _ => n
  | .sending _ n _ => n

/-- At most 16 frames to send and 8 received; none waits while the transmitter is IDLE; each waiting frame stands with its class; each
announcement kind has a frame in the queue exactly when its queued flag is set, and then one; the attempt count is 0..5; and a STARTING
or SILENT node holds no frame to send. -/
def State.busOrdered (s : State) : Prop :=
  s.rbc.frames.length ≤ txPlaces ∧ s.rbc.rxQueue.length ≤ rxPlaces ∧
    (s.rbc.tx = .idle → s.rbc.txUrgent = [] ∧ s.rbc.txNormal = []) ∧
    (∀ f ∈ s.rbc.txUrgent, f.urgent = true) ∧ (∀ f ∈ s.rbc.txNormal, f.urgent = false) ∧
    (∀ k : AnnounceKind,
      s.rbc.frames.countP (fun f => f.body == .announcement k) = if (s.anu.buffer k).queued then 1 else 0) ∧
    s.rbc.tx.attempts < lastAttempt ∧
    (s.sl.nodeState = .starting ∨ s.sl.nodeState = .silent → s.rbc.tx = .idle)

/-! ## Peers and notices (R139, R141, R143, R153) -/

/-- An entry's station is 1..30, its class is GATEWAY exactly at station 30, only a NODE has a seat block, and the block and the load
keep their ranges (R139, R141, R143). -/
def PeerEntry.ordered (p : PeerEntry) : Prop :=
  1 ≤ p.station ∧ p.station ≤ 30 ∧ (p.cls = .gateway ↔ p.station = 30) ∧
    (∀ b, p.block = some b → p.cls = .node ∧ 1 ≤ b.first ∧ b.first ≤ b.last ∧ b.last ≤ 999) ∧
    ∀ l, p.load = some l → l.occupancy ≤ 100 ∧ l.entries ≤ 48 ∧ 1 ≤ l.limit ∧ l.limit ≤ 48

/-- The peer table stands in rising order of station (log 21), so that no station has two entries; it never holds the own address, from
which no frame waits to be taken (R166); every entry is in order; at most 8 notices are pending, no two of them alike, and none while the
node is SILENT. -/
def State.peersOrdered (s : State) : Prop :=
  (s.anu.peers.map (·.station)).Pairwise (· < ·) ∧ (∀ p ∈ s.anu.peers, s.sl.ownAddress ≠ some p.station ∧ p.ordered) ∧
    (∀ f ∈ s.rbc.rxQueue, s.sl.ownAddress ≠ some f.source) ∧ s.anu.notices.length ≤ noticePlaces ∧ s.anu.notices.Nodup ∧
    (s.sl.nodeState = .silent → s.anu.notices = [])

/-! ## Clients (R1, R2, R3, R24, R28) -/

/-- An entry's lists and values keep their ranges (R1, R24, R28). -/
def ClientEntry.ordered (e : ClientEntry) : Prop :=
  -400 ≤ e.signal ∧ e.signal ≤ -80 ∧ e.score ≤ 1010 ∧ e.bindings.length ≤ 4 ∧ (e.bindings.map (·.serial)).Nodup ∧
    e.subscriptions.length ≤ 4 ∧ e.subscriptions.Nodup ∧
    (∀ r, e.record = some r → 1 ≤ r.maxSubscriptions ∧ r.maxSubscriptions ≤ 4)

/-- Both collections stand in rising order of client ID, so that each holds a client at most once; no client is in both; the entries
number at most L, L is at most 48 and the sightings number at most 32; there are no entries unless the node is RUNNING; and every
signal and list keeps its range. -/
def State.clientsOrdered (s : State) : Prop :=
  (s.au.clients.map (·.id.toNat)).Pairwise (· < ·) ∧ (s.au.sightings.map (·.id.toNat)).Pairwise (· < ·) ∧
    (∀ e ∈ s.au.clients, ∀ g ∈ s.au.sightings, e.id ≠ g.id) ∧ s.au.clients.length ≤ s.par.limit ∧ s.par.limit ≤ 48 ∧
    s.au.sightings.length ≤ sightingPlaces ∧ (s.sl.nodeState ≠ .running → s.au.clients = []) ∧
    (∀ e ∈ s.au.clients, e.ordered) ∧ (∀ g ∈ s.au.sightings, -400 ≤ g.signal ∧ g.signal ≤ -80)

/-- At most 4 entries are RESERVED and at most 4 ROAM_OUT, and only an ASSOCIATED entry has a hold-down or a context wait (R38). -/
def State.roamOrdered (s : State) : Prop :=
  s.au.clients.countP ClientEntry.isReserved ≤ roamPlaces ∧ s.au.clients.countP ClientEntry.isRoamOut ≤ roamPlaces ∧
    ∀ e ∈ s.au.clients, e.state ≠ .associated → e.holdDown = none ∧ e.contextWait = none

/-! ## Streams (R102, R107, R111, R113) -/

/-- The entries that count for a stream: those in ASSOCIATED or ROAM_OUT whose list holds it (R18, R113). -/
def State.listeners (s : State) (id : StreamId) : Nat :=
  s.au.clients.countP (fun e => e.state.counted && e.subscriptions.contains id)

/-- The catalogue holds at most 16 streams in rising order of ID; clients stand in rising order and name no stream twice; every stream
that an ASSOCIATED or ROAM_OUT entry names is in the catalogue; each count is the number of such entries; the streams with a nonzero
count are exactly the JOINING and ACTIVE ones; the ended flag is set only in LEAVING; a stream holds an air group 0..7 exactly when it
is not DORMANT, and no two streams hold the same one. -/
def State.streamsOrdered (s : State) : Prop :=
  s.ru.catalogue.length ≤ cataloguePlaces ∧ (s.ru.catalogue.map (·.id)).Pairwise (· < ·) ∧
    (s.au.clients.map (·.id.toNat)).Pairwise (· < ·) ∧ (∀ e ∈ s.au.clients, e.subscriptions.Nodup) ∧
    (∀ e ∈ s.au.clients, e.state.counted = true → ∀ i ∈ e.subscriptions, ∃ st ∈ s.ru.catalogue, st.id = i) ∧
    (∀ st ∈ s.ru.catalogue,
      st.subscribers = s.listeners st.id ∧ ((st.activity = .joining ∨ st.activity = .active) ↔ st.subscribers ≠ 0) ∧
        (st.ended = true → st.activity = .leaving) ∧ (st.airGroup = none ↔ st.activity = .dormant) ∧
        (∀ g, st.airGroup = some g → g < 8)) ∧
    (∀ st ∈ s.ru.catalogue, ∀ st' ∈ s.ru.catalogue, st.airGroup = st'.airGroup → st.airGroup ≠ none → st.id = st'.id)

/-! ## The segment cache (R115, R116) -/

/-- How far a sequence lies ahead of next, across the wrap (R115). -/
def ahead (next seq : Sequence) : Nat := (seq - next).toNat

/-- A stream's cached segments: at most 7 unaired, in the wrap-aware order from next, none LATE, each 1..1,408 bytes; the aired one lies
behind next, and next is one past it or stands at the first unaired one; with next unset nothing is cached; and a DORMANT stream has next
unset. -/
def StreamEntry.cacheOrdered (e : StreamEntry) : Prop :=
  e.unaired.length ≤ unairedPlaces ∧ (∀ g ∈ e.unaired, 1 ≤ g.data.length ∧ g.data.length ≤ longestSegment) ∧
    (e.activity = .dormant → e.next = none) ∧
    match e.next with
    | none => e.unaired = [] ∧ e.aired = none
    | some q =>
      (e.unaired.map (fun g => ahead q g.seq)).Pairwise (· < ·) ∧ (∀ g ∈ e.unaired, ahead q g.seq < 32768) ∧
        ∀ a, e.aired = some a →
          late q a.seq = true ∧ a.data.length ≤ longestSegment ∧
            (q = a.seq + 1 ∨ (e.unaired.head?.map (·.seq)) = some q)

/-- The catalogue stands in rising order of stream ID, and every stream's cache is in order. -/
def State.cacheOrdered (s : State) : Prop :=
  (s.ru.catalogue.map (·.id)).Pairwise (· < ·) ∧ ∀ e ∈ s.ru.catalogue, e.cacheOrdered

/-! ## The replay cycle (R121 to R124, R132, R134) -/

/-- N is 2..32, U 0..100 and the rotation offset 0..7; the active list names catalogue entries only. While STOPPED the list is empty, the
slot absent, the units 0, U is 0 and every stream is DORMANT. While RUNNING the node is not STARTING, the list holds 1 to 8 places with the
offset among them, a slot of 0..N−1 has started, and the units are at most 8 for each slot started, so at most 8N. -/
def State.cycleOrdered (s : State) : Prop :=
  (2 ≤ s.par.slots ∧ s.par.slots ≤ 32) ∧ s.ru.occupancy ≤ 100 ∧ s.ru.cycle.offset ≤ 7 ∧
    (∀ i, some i ∈ s.ru.cycle.active → ∃ e ∈ s.ru.catalogue, e.id = i) ∧
    (s.ru.cycle.running = false →
      s.ru.cycle.active = [] ∧ s.ru.cycle.slot = none ∧ s.ru.cycle.units = 0 ∧ s.ru.occupancy = 0 ∧
        ∀ e ∈ s.ru.catalogue, e.activity = .dormant) ∧
    (s.ru.cycle.running = true →
      s.sl.nodeState ≠ .starting ∧ s.ru.cycle.offset < s.ru.cycle.active.length ∧ s.ru.cycle.active.length ≤ 8 ∧
        ∃ k, s.ru.cycle.slot = some k ∧ k < s.par.slots ∧ s.ru.cycle.units ≤ 8 * (k + 1))

/-! ## Seats (R69, R73, R74, R87) -/

/-- A seat is CONTESTED. -/
def SeatState.isContested (st : SeatState) : Bool :=
  match st with
  | .contested _ _ => true
  | .vacant => false
  | .bound _ _ => false
  | .blocked => false

/-- Seats stand in rising order; the lists keep their 8 places and no two entries name one seat, or one client and serial; a seat is
CONTESTED exactly when an authority entry names it; a ticket serial is bound to at most one seat, a challenger's serial counting as bound
to the seat it challenges; and there is no contest and no pending token unless the node is RUNNING. -/
def State.seatsOrdered (s : State) : Prop :=
  (s.sv.seats.map (·.number)).Pairwise (· < ·) ∧ s.sv.authority.length ≤ authorityPlaces ∧
    (s.sv.authority.map (·.seat)).Nodup ∧ s.sv.pendingTokens.length ≤ pendingPlaces ∧
    (s.sv.pendingTokens.map (fun p => (p.client, p.token.serial))).Nodup ∧
    (∀ n, (∃ r ∈ s.sv.seats, r.number = n ∧ r.state.isContested = true) ↔ ∃ a ∈ s.sv.authority, a.seat = n) ∧
    (∀ r ∈ s.sv.seats, ∀ r' ∈ s.sv.seats, ∀ h h', r.state.holder = some h → r'.state.holder = some h' →
      h.serial = h'.serial → r.number = r'.number) ∧
    (∀ r ∈ s.sv.seats, ∀ h, r.state.holder = some h → ∀ a ∈ s.sv.authority, a.challenger.serial = h.serial →
      r.number = a.seat) ∧
    (∀ a ∈ s.sv.authority, ∀ a' ∈ s.sv.authority, a.challenger.serial = a'.challenger.serial → a.seat = a'.seat) ∧
    (s.sl.nodeState ≠ .running → s.sv.authority = [] ∧ s.sv.pendingTokens = [])

end Sys2Proof.Machine
end

