-- ==== Sys2Proof/Certificates/Slice0/Obligations.lean ====
section
/-! DEFINITION. The statements for the provers. Where a statement rests on a choice of the model it names the log entry. In all of
them `s.now + dt` is the time of the command (log 1), and a statement of the form `exec c s = .next t` with t written as updates of the
state before says that whatever those updates do not name is unchanged. -/

open Sys2Proof Sys2Proof.Machine

/-! ## The step and its outcomes -/

/-- A step takes the command at the front of the queue and is that command's exec on the state with the queue's rest; on an empty
queue the node idles (the model's choice, log 2). -/
def Obligations.StepRunsTheFrontCommand : Prop :=
  (∀ (c : Instr) (rest : List Instr) (s : State), step { s with pending := c :: rest } = exec c { s with pending := rest }) ∧
    ∀ s : State, s.pending = [] → step s = .next s

/-- Every command of every state ends in a next state, takes its time and leaves the waiting commands as they are (the time base is the
model's, log 1): nothing the node does is a fault or a refusal. A STARTING node takes the oldest record, or the oldest frame of the block
that a command serves, and does nothing else with it (R6, R62, R64, R85, R120, R154). -/
def Obligations.EveryCommandGoesOn : Prop :=
  (∀ (c : Instr) (s : State), ∃ t, exec c s = .next t ∧ t.now = s.now + elapsedBy c ∧ t.pending = s.pending) ∧
    ∀ (s : State) (dt : Time), s.sl.nodeState = .starting →
      (∀ r, s.rp.uplink.head? = some r → exec (r.body.command dt) s = .next (s.elapse dt).recordTaken) ∧
        ∀ (m : Message) (b : Block) (c : Instr) (source : Station), m.command dt = some (b, c) → s.carries b source m →
          exec c s = .next ((s.elapse dt).released b)

/-! ## Start-up (chapter 12) -/

/-- The state after reset holds the power-on values that the chapters give, and has every invariant stated below. -/
def Obligations.ResetHoldsPowerOnValues : Prop :=
  State.reset.sl =
      { nodeState := .starting, ownAddress := none, params := none, defaulted := false, listeningCount := 0,
        readStarted := none } ∧
    State.reset.au = { clients := [], sightings := [] } ∧
    State.reset.sv = { matchState := .opened, seats := [], pendingTokens := [], authority := [] } ∧
    State.reset.ru.catalogue = [] ∧ State.reset.ru.occupancy = 0 ∧ State.reset.ru.cycle.running = false ∧
    State.reset.ru.cycle.offset = 0 ∧ State.reset.ru.cycle.active = [] ∧ State.reset.ru.cycle.slot = none ∧
    State.reset.ru.cycle.units = 0 ∧ State.reset.anu.peers = [] ∧ State.reset.anu.wantList = [] ∧
    State.reset.anu.notices = [] ∧ State.reset.anu.nextBoundary = none ∧
    (∀ k, State.reset.anu.buffer k = { armed := false, skippedLast := false, queued := false }) ∧
    (∀ k : Fin 24, State.reset.cb.counters.get k = { value := 0, saturated := false } ∧
      State.reset.cb.snapshot.get k = { value := 0, saturated := false }) ∧
    State.reset.rbc.tx = .idle ∧ State.reset.rbc.txUrgent = [] ∧ State.reset.rbc.txNormal = [] ∧
    State.reset.rbc.rxQueue = [] ∧ State.reset.rbc.clashNoted = false ∧ State.reset.rp.uplink = [] ∧
    State.reset.rp.downlink = [] ∧ State.reset.rp.held = [] ∧ State.reset.rp.transfer = .idle ∧
    State.reset.rp.ordered ∧ State.reset.countersOrdered ∧ State.reset.busOrdered ∧ State.reset.peersOrdered ∧
    State.reset.clientsOrdered ∧ State.reset.roamOrdered ∧ State.reset.streamsOrdered ∧ State.reset.cacheOrdered ∧
    State.reset.cycleOrdered ∧ State.reset.seatsOrdered

/-- POWER_ON_RESET and RESET_PIN (R193, R197): every block at its power-on values. With a strap of 1..29 the own address is taken and the
read of the record begins now; with 0, 30 or 31 the node is SILENT, with no own address, every field at its default, no seats, the mask
clear and the first boundary 100 ms away. The line and the ready signal are the model's choice (logs 6, 7), and so are the queue, the time
and the free draws (logs 1, 9) and the stopped cycle's start time of 0 (log 16); that a SILENT node's defaulted flag is clear is its reading
of R193 and R196 (log 15). -/
def Obligations.ResetReadsTheStrap : Prop :=
  ∀ (s : State) (dt : Time) (strap : BitVec 5),
    let initial : State := { State.reset with now := s.now + dt, pending := s.pending, freeCount := s.freeCount }
    let ends (t : State) : Prop :=
      exec (.powerOnReset dt strap) s = .next { t with rbc := RowBus.initial (some (s.now + dt)) } ∧
        exec (.resetPin dt strap) s =
          .next { t with rbc := RowBus.initial (s.elapse dt).lineAfterReset, rp := RadioPort.initial s.rp.ready }
    (1 ≤ strap.toNat → strap.toNat ≤ 29 →
      ends
        { initial with
          sl := { StartUp.initial with ownAddress := some strap.toNat, readStarted := some (s.now + dt) } }) ∧
      (strap.toNat = 0 ∨ strap.toNat = 30 ∨ strap.toNat = 31 →
        ends
          { initial with
            sl := { StartUp.initial with nodeState := .silent, params := some Params.default },
            anu := { Announcement.initial with nextBoundary := some (s.now + dt + 1000000) } })

/-- STATION_RECORD_READ_DONE with a usable record in time (R194, R195, R197): the node is LISTENING under the record's parameters, every
seat of its block is VACANT, masked counters are 0, the first boundary comes P from now, and a PRESENCE frame is in hand.
(ParametersLieInTheirRanges says what paramsOf and seatTable are.) -/
def Obligations.UsableRecordStartsListening : Prop :=
  ∀ (s : State) (dt : Time) (r : List Byte) (start : Time), s.sl.nodeState = .starting → s.sl.readStarted = some start →
    s.now + dt ≤ start + 100000 → r.length = 33 → fieldAt r 0 2 = 0xD7A1 →
    crc16 0xFFFF#16 (r.take 31) = BitVec.ofNat 16 (fieldAt r 31 2) → fieldAt r 2 2 ≠ 0 → s.rbc.frames = [] →
    ∃ t, exec (.stationRecordReadDone dt r) s = .next t ∧
      t.sl =
        { s.sl with
          nodeState := .listening, params := some (paramsOf r), defaulted := false, listeningCount := 0,
          readStarted := none } ∧
      t.sv = { s.sv with seats := seatTable (paramsOf r).block } ∧
      (∀ k : Fin 24, t.cb.counters.get k =
        if (paramsOf r).mask.getLsbD k then { value := 0, saturated := false } else s.cb.counters.get k) ∧
      t.cb.snapshot = s.cb.snapshot ∧
      t.anu =
        { s.anu with
          nextBoundary := some (s.now + dt + 10000 * (paramsOf r).periodMs),
          presence := { s.anu.presence with queued := true } } ∧
      t.rbc = { s.rbc with tx := .defer (announcementFrame .presence) 0 (s.now + dt) } ∧ t.au = s.au ∧ t.ru = s.ru ∧
      t.rp = s.rp

/-- STATION_RECORD_READ_TIMEOUT 10 ms after the read began, and STATION_RECORD_READ_DONE with an unusable record (R194, R196): the node
is LISTENING in the defaulted configuration, with no seats, and NOTICE CONFIG_DEFAULTED is armed. (A record of other than 33 bytes is not
whole, log 22; a timeout taken late acts, and the period counts, from when it comes, log 4.) -/
def Obligations.UnusableRecordIsDefaulted : Prop :=
  ∀ (s : State) (dt : Time) (start : Time) (c : Instr), s.sl.nodeState = .starting → s.sl.readStarted = some start →
    s.rbc.frames = [] → s.anu.notices = [] →
    (c = .stationRecordReadTimeout dt ∧ start + 100000 ≤ s.now + dt ∨
      ∃ r, c = .stationRecordReadDone dt r ∧
        (r.length ≠ 33 ∨ start + 100000 < s.now + dt ∨ fieldAt r 0 2 ≠ 0xD7A1 ∨
          crc16 0xFFFF#16 (r.take 31) ≠ BitVec.ofNat 16 (fieldAt r 31 2) ∨ fieldAt r 2 2 = 0)) →
    ∃ t, exec c s = .next t ∧
      t.sl =
        { s.sl with
          nodeState := .listening, params := some Params.default, defaulted := true, listeningCount := 0,
          readStarted := none } ∧
      t.sv = { s.sv with seats := [] } ∧ (∀ k : Fin 24, t.cb.counters.get k = s.cb.counters.get k) ∧
      t.cb.snapshot = s.cb.snapshot ∧
      t.anu =
        { s.anu with
          nextBoundary := some (s.now + dt + 1000000), presence := { s.anu.presence with queued := true },
          notices := [{ kind := .configDefaulted, subject := 0 }] } ∧
      t.rbc = { s.rbc with tx := .defer (announcementFrame .presence) 0 (s.now + dt) } ∧ t.au = s.au ∧ t.ru = s.ru ∧
      t.rp = s.rp

/-- The station parameters (R195, 13.6) and the seat table made from them (R73). Whatever a station record's bytes hold, the parameters
taken from it lie in the ranges of R195, and its seat block holds 1 to 24 seats of 1..999. Of a record of 33 bytes each parameter is the
clamp of its own bytes, most significant first: codes 2 to 7, seat block 8 to 11 (absent when first is 0 or the clamped last lies below
the clamped first, and cut to 24 seats), L 12, join floor 13 and presence threshold 14 signed, M 15, F 16, P 18, the modes 20 and 21, N
22, T 23, the mask 24 to 26 with counter 0 at bit 0 of byte 26, hold time 27, away time 29. The seat table holds each seat of the block
once, in order and VACANT, and without a block none. -/
def Obligations.ParametersLieInTheirRanges : Prop :=
  (∀ r : List Byte,
    let p := paramsOf r
    (1 ≤ p.limit ∧ p.limit ≤ 48) ∧ (-100 ≤ p.joinFloor ∧ p.joinFloor ≤ -40) ∧
      (-90 ≤ p.presenceThreshold ∧ p.presenceThreshold ≤ -30) ∧ p.margin ≤ 255 ∧ p.claimFloor ≤ 1010 ∧
      (50 ≤ p.periodMs ∧ p.periodMs ≤ 1000) ∧ p.presenceMode ≠ .off ∧ (2 ≤ p.slots ∧ p.slots ≤ 32) ∧
      (2 ≤ p.slotMs ∧ p.slotMs ≤ 20) ∧ (30 ≤ p.holdSeconds ∧ p.holdSeconds ≤ 600) ∧
      (60 ≤ p.awaySeconds ∧ p.awaySeconds ≤ 1800) ∧
      ∀ b, p.block = some b → 1 ≤ b.first ∧ b.first ≤ b.last ∧ b.last ≤ 999 ∧ b.last ≤ b.first + 23) ∧
    (∀ r : List Byte, r.length = 33 →
      let p := paramsOf r
      let byte (i : Nat) : Nat := (r.getD i 0).toNat
      let word (i : Nat) : Nat := 256 * byte i + byte (i + 1)
      let first := max 1 (min 999 (word 8))
      let last := max 1 (min 999 (word 10))
      (∃ k, p.codes = some k ∧ k.rowCode.toNat = word 2 ∧ k.matchCode.toNat = word 4 ∧ k.matchKey.toNat = word 6) ∧
        p.block =
          (if word 8 = 0 ∨ last < first then none else some { first := first, last := min last (first + 23) }) ∧
        p.limit = max 1 (min 48 (byte 12)) ∧ p.joinFloor = max (-100) (min (-40) (r.getD 13 0).toInt) ∧
        p.presenceThreshold = max (-90) (min (-30) (r.getD 14 0).toInt) ∧ p.margin = byte 15 ∧
        p.claimFloor = min 1010 (word 16) ∧ p.periodMs = max 50 (min 1000 (word 18)) ∧
        p.presenceMode = (if byte 20 = 2 then .periodic else .bestEffort) ∧
        p.loadMode = (if byte 21 = 1 then .off else if byte 21 = 2 then .periodic else .bestEffort) ∧
        p.slots = max 2 (min 32 (byte 22)) ∧ p.slotMs = max 2 (min 20 (byte 23)) ∧
        (∀ i < 24, p.mask.getLsbD i = (r.getD (26 - i / 8) 0).getLsbD (i % 8)) ∧
        p.holdSeconds = max 30 (min 600 (word 27)) ∧ p.awaySeconds = max 60 (min 1800 (word 29))) ∧
    seatTable none = [] ∧
    ∀ b : SeatBlock,
      (seatTable (some b)).map (·.number) = List.range' b.first (b.last + 1 - b.first) ∧
        ∀ x ∈ seatTable (some b), x.state = .vacant

/-! ## The announcement period (chapters 4, 8 and 12) -/

/-- ANNOUNCEMENT_PERIOD_BOUNDARY, when due (R146): peers silent for 10 P go and LIVE peers silent for 3 P become STALE (R144), OCCUPIED
seats past the away time become AWAY (R81), a LISTENING node counts and is RUNNING at 3 (R198), and the next boundary comes P after this
one was due. After the ageing PRESENCE, LOAD, STREAM_WANT and HARVEST take their turns in this order, the first two in the modes of the
station record (R149), and then the pending notices are handed over (R153); a SILENT node queues nothing (R154). Clients, streams, scores
and the receive queue are untouched. (A boundary taken late ages against the time it is taken, log 4; the order of the parts is log 20.) -/
def Obligations.BoundaryAgesPeersAndSeats : Prop :=
  ∀ (s : State) (dt due : Time), s.anu.nextBoundary = some due → due ≤ s.now + dt →
    let p := 10000 * s.par.periodMs
    let away (r : SeatRecord) : SeatRecord :=
      match r.state with
      | .bound .occupied h =>
        if r.lastPresent + 10000000 * s.par.awaySeconds ≤ s.now + dt then { r with state := .bound .away h } else r
      | _ => r
    let aged (e : PeerEntry) : Option PeerEntry :=
      if e.lastFrame + 10 * p ≤ s.now + dt then none
      else if e.status = .live ∧ e.lastFrame + 3 * p ≤ s.now + dt then some { e with status := .stale } else some e
    let u := (s.elapse dt).setAnu { s.anu with nextBoundary := some (due + p), peers := s.anu.peers.filterMap aged }
    let v :=
      if s.sl.nodeState = .silent then u
      else
        ((((u.modeTurn .presence s.par.presenceMode).modeTurn .load s.par.loadMode).onceTurn .streamWant).onceTurn
          .harvest).sendNotices
    ∃ t, exec (.announcementPeriodBoundary dt) s = .next t ∧ t = (v.setSv t.sv).setSl t.sl ∧
      t.anu.nextBoundary = some (due + p) ∧
      t.anu.peers =
        s.anu.peers.filterMap (fun e =>
          if e.lastFrame + 10 * p ≤ s.now + dt then none
          else if e.status = .live ∧ e.lastFrame + 3 * p ≤ s.now + dt then some { e with status := .stale } else some e) ∧
      t.sv.seats = s.sv.seats.map away ∧ t.sv.matchState = s.sv.matchState ∧ t.sv.authority = s.sv.authority ∧
      t.sv.pendingTokens = s.sv.pendingTokens ∧ t.au = s.au ∧ t.ru = s.ru ∧ t.rp = s.rp ∧
      t.rbc.rxQueue = s.rbc.rxQueue ∧
      t.sl =
        (if s.sl.nodeState = .listening then
          { s.sl with
            listeningCount := s.sl.listeningCount + 1,
            nodeState := if s.sl.listeningCount + 1 = 3 then .running else .listening }
        else s.sl)

/-- The buffers' turns at a boundary while the node transmits (R149, R150): mode OFF does nothing; PERIODIC hands a frame over whenever
none is queued; BEST_EFFORT skips when the transmit queue holds more than 8 frames and the last boundary was not skipped; a frame already
queued is not queued again; a refused one stays due; and a ONCE buffer hands over when armed, leaves a frame in an attempt alone, and for
HARVEST takes the snapshot exactly when its frame is accepted or updated in place (R188). PRESENCE and LOAD go to station 0, the others to
30 (R147). The pending notices go to 30 one at a time, oldest first (R153): an accepted one leaves the list, a refused one stays in its
place and counts TX_LOST (the next is tried all the same, log 25). Arming a notice appends it, but changes nothing when it is pending
already, when 8 are, or when the node is SILENT (R153). -/
def Obligations.BuffersTakeTheirTurns : Prop :=
  (∀ (s : State) (k : AnnounceKind), s.sl.nodeState = .listening ∨ s.sl.nodeState = .running →
    let b := s.anu.buffer k
    (k = .presence ∨ k = .load →
      (b.queued = true → s.bestEffortTurn k = s.setSkipped k false ∧ s.periodicTurn k = s) ∧
        (b.queued = false → b.skippedLast = false → 8 < s.txCount → s.bestEffortTurn k = s.setSkipped k true) ∧
        (b.queued = false → b.skippedLast = true ∨ s.txCount ≤ 8 → s.txCount < 16 →
          (s.bestEffortTurn k).anu.buffer k = { b with skippedLast := false, queued := true } ∧
            (s.bestEffortTurn k).txCount = s.txCount + 1) ∧
        (b.queued = false → b.skippedLast = true → 16 ≤ s.txCount →
          (s.bestEffortTurn k).anu.buffer k = b ∧ (s.bestEffortTurn k).rbc = s.rbc) ∧
        (b.queued = false → s.txCount < 16 →
          (s.periodicTurn k).anu.buffer k = { b with queued := true } ∧
            (s.periodicTurn k).rbc.frames.Perm ({ destination := 0, body := .announcement k } :: s.rbc.frames)) ∧
        (b.queued = false → 16 ≤ s.txCount → s.periodicTurn k = s.count .txLost) ∧
        s.modeTurn k .off = s ∧ s.modeTurn k .periodic = s.periodicTurn k ∧
        s.modeTurn k .bestEffort = s.bestEffortTurn k) ∧
      (k = .streamWant ∨ k = .harvest →
        (b.armed = false → s.onceTurn k = s) ∧
          (b.armed = true → b.queued = true → s.attempting k = true → s.onceTurn k = s) ∧
          (b.armed = true → b.queued = true → s.attempting k = false →
            (s.onceTurn k).anu.buffer k = { b with armed := false } ∧ (s.onceTurn k).rbc = s.rbc ∧
              (s.onceTurn k).cb = if k = .harvest then { s.cb with snapshot := s.cb.counters } else s.cb) ∧
          (b.armed = true → b.queued = false → s.txCount < 16 →
            (s.onceTurn k).anu.buffer k = { b with armed := false, queued := true } ∧
              (s.onceTurn k).txCount = s.txCount + 1 ∧
              (s.onceTurn k).rbc.frames.Perm ({ destination := 30, body := .announcement k } :: s.rbc.frames) ∧
              (s.onceTurn k).cb = if k = .harvest then { s.cb with snapshot := s.cb.counters } else s.cb) ∧
          (b.armed = true → b.queued = false → 16 ≤ s.txCount →
            (s.onceTurn k).anu.buffer k = b ∧ (s.onceTurn k).rbc = s.rbc ∧
              (s.onceTurn k).cb.snapshot = s.cb.snapshot))) ∧
    (∀ (s : State) (n : Notice), s.sl.nodeState = .listening ∨ s.sl.nodeState = .running →
      (s.txCount < 16 →
        s.sendNotice n =
          (s.send 30 (.notice n.kind n.subject)).setAnu
            { s.anu with notices := s.anu.notices.filter (fun x => x != n) }) ∧
        (16 ≤ s.txCount → s.sendNotice n = s.count .txLost) ∧
        s.sendNotices = s.anu.notices.foldl State.sendNotice s) ∧
    ∀ (s : State) (kind : NoticeKind) (subject : Nat),
      let n : Notice := { kind := kind, subject := subject }
      (s.sl.nodeState = .silent ∨ n ∈ s.anu.notices ∨ 8 ≤ s.anu.notices.length → s.armNotice kind subject = s) ∧
        (s.sl.nodeState ≠ .silent → n ∉ s.anu.notices → s.anu.notices.length < 8 →
          s.armNotice kind subject = s.setAnu { s.anu with notices := s.anu.notices ++ [n] })

/-! ## Uplink records (chapters 1, 2 and 10) -/

/-- UPLINK_RECORD_ARRIVAL (R171, R172): a record that is not well-formed leaves no trace; a well-formed one takes the newest place of the
uplink queue, or is dropped at a full queue and counts RADIO_DROP. A well-formed record (13.5) has the kind in byte 0, a client ID other
than 0 in bytes 1 to 6, the RSSI as a signed byte 7 and a serving cell of 0..31 in byte 8, and after them exactly the bytes of its kind. -/
def Obligations.ArrivingRecordIsQueuedOrDropped : Prop :=
  (∀ (s : State) (dt : Time) (record : List Byte),
    (parseUplink record = none → exec (.uplinkRecordArrival dt record) s = .next (s.elapse dt)) ∧
      ∀ r, parseUplink record = some r →
        (s.rp.uplink.length < 16 →
          exec (.uplinkRecordArrival dt record) s =
            .next ((s.elapse dt).setRp { s.rp with uplink := s.rp.uplink ++ [r] })) ∧
        (16 ≤ s.rp.uplink.length →
          exec (.uplinkRecordArrival dt record) s = .next ((s.elapse dt).count .radioDrop))) ∧
    ∀ (record : List Byte) (r : UplinkRecord),
      let byte (i : Nat) : Nat := (record.getD i 0).toNat
      let flag (i : Nat) : Bool := (record.getD i 0).getLsbD 0
      parseUplink record = some r ↔
        r.client = BitVec.ofNat 48 (fieldAt record 1 6) ∧ r.client ≠ 0 ∧ r.rssi = (record.getD 7 0).toInt ∧
          r.cell = byte 8 ∧ byte 8 ≤ 31 ∧
          (byte 0 = 1 ∧ record.length = 9 ∧ r.body = .heard ∨
            byte 0 = 2 ∧ record.length = 9 ∧ r.body = .joinRequest ∨
            byte 0 = 3 ∧ record.length = 9 ∧ r.body = .leave ∨
            byte 0 = 4 ∧ record.length = 15 ∧
              r.body =
                .capsPiece (byte 9) (flag 10)
                  [record.getD 11 0, record.getD 12 0, record.getD 13 0, record.getD 14 0] ∨
            byte 0 = 5 ∧ record.length = 11 ∧ r.body = .subscribe (byte 9) (flag 10) ∨
            byte 0 = 6 ∧ record.length = 21 ∧
              r.body =
                .token
                  { serial := BitVec.ofNat 32 (fieldAt record 9 4), matchCode := BitVec.ofNat 16 (fieldAt record 13 2),
                    rowCode := BitVec.ofNat 16 (fieldAt record 15 2), seat := fieldAt record 17 2,
                    check := BitVec.ofNat 16 (fieldAt record 19 2) })

/-- HEARD from a client that has an entry (R6, R22 to R24, R32, R79): S moves by floor((4r − S) ÷ 4), or is 4r in an unsampled entry;
last-heard is now; the score is recomputed from the new S; the client's seats are tested for presence; and every other client, every
sighting and every other block is unchanged. -/
def Obligations.HeardUpdatesItsEntry : Prop :=
  ∀ (s : State) (dt : Time) (r : UplinkRecord) (e : ClientEntry), s.sl.nodeState ≠ .starting →
    s.rp.uplink.head? = some r → r.body = .heard → s.findEntry r.client = some e →
    let reading := 4 * max (-100) (min (-20) r.rssi)
    let signal := if e.sampled then e.signal + (reading - e.signal) / 4 else reading
    let u := (s.elapse dt).recordTaken
    ∃ t, exec (.heard dt) s = .next t ∧ t = (u.setAu t.au).setSv t.sv ∧
      t.findEntry r.client =
        some
          { e with
            signal := signal, sampled := true, lastHeard := s.now + dt,
            score := servingScore signal s.ru.occupancy s.au.clients.length (s.home r.client) } ∧
      (∀ d, d ≠ r.client → t.findEntry d = s.findEntry d) ∧ t.au.sightings = s.au.sightings ∧
      t.sv =
        (if 4 * s.par.presenceThreshold ≤ signal then
          { s.sv with
            seats := s.sv.seats.map (fun x => if x.state.homeFor r.client then x.occupy (s.now + dt) else x) }
        else s.sv)

/-- HEARD from a client without an entry (R3, R4, R6, R7, R39, R40). A client in neither collection is recorded as a SEEN sighting at 4r:
in a free place, else in that of the SEEN sighting heard longest ago (the lower ID of several), else, when all are BACKOFF, not at all. A
client held as a sighting has it updated. When the six tests of the claim check hold, the sighting gives way to a RESERVED entry with a
claim timer of 300 ms, which stores the score that the ROAM_CLAIM to the serving cell carries; when any test fails, the sighting stays, no
claim is sent, and a client whose serving cell is the own address is sent one DROP_CLIENT. The client's seats are tested for presence in
every case. (Both lists are kept in rising order of client ID, log 21; that the entry counts as sampled is the model's reading of R1, log
8.) -/
def Obligations.HeardWithoutAnEntry : Prop :=
  ∀ (s : State) (dt : Time) (r : UplinkRecord), s.sl.nodeState ≠ .starting → s.rp.uplink.head? = some r →
    r.body = .heard → s.findEntry r.client = none →
    let c := r.client
    let reading := 4 * max (-100) (min (-20) r.rssi)
    let u := (s.elapse dt).recordTaken
    let claimable : Prop := ∃ p ∈ s.anu.peers, p.station = r.cell ∧ p.cls = .node ∧ p.status = .live
    let scored (signal : Int) : Nat := servingScore signal s.ru.occupancy (s.au.clients.length + 1) (s.home c)
    let fails (status : SightingStatus) (signal : Int) : Prop :=
      s.sl.nodeState ≠ .running ∨ status ≠ .seen ∨ ¬ claimable ∨ 4 ≤ s.au.clients.countP ClientEntry.isReserved ∨
        s.par.limit ≤ s.au.clients.length ∨ scored signal < s.par.claimFloor
    let stray (v : State) : State := if s.sl.ownAddress = some r.cell then v.handReply (.dropClient c) else v
    let claims (g : Sighting) (others : List Sighting) : State :=
      let e : ClientEntry :=
        { id := c, state := .reserved r.cell (s.now + dt + 3000000), signal := g.signal, sampled := true,
          lastHeard := s.now + dt, score := scored g.signal, bindings := [], subscriptions := [], record := none,
          assemblyNext := 0, assemblyBytes := [], holdDown := none, contextWait := none }
      ((u.setAu
        { clients := putBy (fun x => x.id.toNat) e s.au.clients, sightings := others }).send r.cell
          (.roamClaim c (scored g.signal))).testPresence c
    (s.findSighting c = none → s.sl.ownAddress = some r.cell → s.au.sightings.length < 32 → ¬ claimable →
      let g : Sighting :=
        { id := c, signal := reading, lastHeard := s.now + dt, cell := r.cell, status := .seen,
          removal := s.now + dt + 100000000 }
      exec (.heard dt) s =
        .next
          (((u.setAu { s.au with sightings := putBy (fun x => x.id.toNat) g s.au.sightings }).testPresence c).handReply
            (.dropClient c))) ∧
      (∀ g, s.findSighting c = some g → s.sl.ownAddress ≠ some r.cell →
        let signal := g.signal + (reading - g.signal) / 4
        let score := servingScore signal s.ru.occupancy (s.au.clients.length + 1) (s.home c)
        (¬ claimable →
          exec (.heard dt) s =
            .next
              ((u.updateSighting c (fun g =>
                { g with
                  signal := g.signal + (reading - g.signal) / 4, lastHeard := s.now + dt, cell := r.cell,
                  removal := s.now + dt + 100000000 })).testPresence c)) ∧
        (claimable → s.sl.nodeState = .running → g.status = .seen → s.au.clients.countP ClientEntry.isReserved < 4 →
          s.au.clients.length < s.par.limit → s.par.claimFloor ≤ score →
          let e : ClientEntry :=
            { id := c, state := .reserved r.cell (s.now + dt + 3000000), signal := signal, sampled := true,
              lastHeard := s.now + dt, score := score, bindings := [], subscriptions := [], record := none,
              assemblyNext := 0, assemblyBytes := [], holdDown := none, contextWait := none }
          exec (.heard dt) s =
            .next
              (((u.setAu
                { clients := putBy (fun x => x.id.toNat) e s.au.clients,
                  sightings := s.au.sightings.filter (fun x => x.id != c) }).send r.cell (.roamClaim c score)).testPresence
                c))) ∧
      (∀ g, s.findSighting c = some g → fails g.status (g.signal + (reading - g.signal) / 4) →
        exec (.heard dt) s =
          .next
            (stray
              ((u.updateSighting c (fun g =>
                { g with
                  signal := g.signal + (reading - g.signal) / 4, lastHeard := s.now + dt, cell := r.cell,
                  removal := s.now + dt + 100000000 })).testPresence c))) ∧
      (s.findSighting c = none →
        let g : Sighting :=
          { id := c, signal := reading, lastHeard := s.now + dt, cell := r.cell, status := .seen,
            removal := s.now + dt + 100000000 }
        (∀ others : List Sighting,
          (s.au.sightings.length < 32 ∧ others = s.au.sightings ∨
            32 ≤ s.au.sightings.length ∧
              ∃ old ∈ s.au.sightings, old.status = .seen ∧
                (∀ x ∈ s.au.sightings, x.status = .seen →
                  old.lastHeard < x.lastHeard ∨ (old.lastHeard = x.lastHeard ∧ old.id.toNat ≤ x.id.toNat)) ∧
                others = s.au.sightings.filter (fun x => x.id != old.id)) →
          (fails .seen reading →
            exec (.heard dt) s =
              .next
                (stray
                  ((u.setAu { s.au with sightings := putBy (fun x => x.id.toNat) g others }).testPresence c))) ∧
          (¬ fails .seen reading → s.sl.ownAddress ≠ some r.cell → exec (.heard dt) s = .next (claims g others))) ∧
        (32 ≤ s.au.sightings.length → (∀ x ∈ s.au.sightings, x.status ≠ .seen) →
          exec (.heard dt) s = .next (stray u)))

/-- JOIN_REQUEST of a client without an entry, at a RUNNING node with room, at or above the join floor (R8, R10, R32, R57): the client gets
an ASSOCIATED entry with its sighting's signal and last-heard time (or 4r and now), the sighting goes, the reply is ACCEPTED,
JOINS_ACCEPTED counts and the client's seats are tested for presence; a serving cell that is another node starts a context wait of 1 s and
is sent a CLIENT_MOVED that wants the context. (The client table is kept in rising order of client ID, log 21; that the entry counts as
sampled is the model's reading of R1, R10 and R26, log 8.) -/
def Obligations.AcceptedJoinCreatesTheEntry : Prop :=
  ∀ (s : State) (dt : Time) (r : UplinkRecord), s.sl.nodeState = .running → s.rp.uplink.head? = some r →
    r.body = .joinRequest →
    let c := r.client
    let v := (s.elapse dt).recordTaken.sample c r.rssi r.cell
    v.findEntry c = none → s.par.joinFloor ≤ max (-100) (min (-20) r.rssi) → v.au.clients.length < s.par.limit →
    let signal := match v.findSighting c with
      | some g => g.signal
      | none => 4 * max (-100) (min (-20) r.rssi)
    let heard := match v.findSighting c with
      | some g => g.lastHeard
      | none => s.now + dt
    let e : ClientEntry :=
      { id := c, state := .associated, signal := signal, sampled := true, lastHeard := heard,
        score := servingScore signal s.ru.occupancy (v.au.clients.length + 1) (v.home c), bindings := [],
        subscriptions := [], record := none, assemblyNext := 0, assemblyBytes := [], holdDown := none,
        contextWait := none }
    let admitted := (((v.setAu
      { clients := putBy (fun x => x.id.toNat) e v.au.clients,
        sightings := v.au.sightings.filter (fun x => x.id != c) }).handReply (.joinReply c .accepted none)).count
          .joinsAccepted).testPresence c
    (r.cell = 0 ∨ 30 ≤ r.cell ∨ s.sl.ownAddress = some r.cell → exec (.joinRequest dt) s = .next admitted) ∧
      (1 ≤ r.cell → r.cell ≤ 29 → s.sl.ownAddress ≠ some r.cell →
        exec (.joinRequest dt) s =
          .next
            ((admitted.updateEntry c (fun e =>
              { e with contextWait := some { oldStation := r.cell, expiry := s.now + dt + 10000000 } })).send r.cell
              (.clientMoved c true)))

/-- JOIN_REQUESTs that are refused (R8, R9): NOT_READY outside RUNNING and for a RESERVED entry, WEAK below the join floor, FULL at L
entries with the redirect of R9, each counting JOINS_REFUSED. The redirect is a LIVE NODE peer with load E below L, none of whose like
has a lower U, or the same U and a lower station. -/
def Obligations.RefusedJoinsSayWhy : Prop :=
  ∀ (s : State) (dt : Time) (r : UplinkRecord), s.sl.nodeState ≠ .starting → s.rp.uplink.head? = some r →
    r.body = .joinRequest → (∀ p ∈ s.anu.peers, p.station ≤ 30) →
    let v := (s.elapse dt).recordTaken.sample r.client r.rssi r.cell
    let refused (code : JoinCode) (a : Option Station) : State :=
      (v.handReply (.joinReply r.client code a)).count .joinsRefused
    let suits (p : PeerEntry) (l : PeerLoad) : Prop :=
      p ∈ s.anu.peers ∧ p.cls = .node ∧ p.status = .live ∧ p.load = some l ∧ l.entries < l.limit
    (s.sl.nodeState ≠ .running → exec (.joinRequest dt) s = .next (refused .notReady none)) ∧
      (s.sl.nodeState = .running →
        (∀ e a x, v.findEntry r.client = some e → e.state = .reserved a x →
          exec (.joinRequest dt) s = .next (refused .notReady none)) ∧
        (v.findEntry r.client = none →
          (max (-100) (min (-20) r.rssi) < s.par.joinFloor → exec (.joinRequest dt) s = .next (refused .weak none)) ∧
          (s.par.joinFloor ≤ max (-100) (min (-20) r.rssi) → s.par.limit ≤ v.au.clients.length →
            ∃ a, exec (.joinRequest dt) s = .next (refused .full a) ∧
              (a = none → ∀ p l, ¬ suits p l) ∧
              ∀ n, a = some n → ∃ p l, suits p l ∧ p.station = n ∧
                ∀ q m, suits q m → l.occupancy < m.occupancy ∨ (l.occupancy = m.occupancy ∧ n ≤ q.station))))

/-- JOIN_REQUEST of a client that has an entry, at a RUNNING node (R8): ASSOCIATED is refreshed; ROAM_IN is activated, its held streams
applied afresh in their order, and the granting station told (R51); ROAM_OUT returns to ASSOCIATED with a hold-down and a MOVE_TO naming
this node (R55). -/
def Obligations.JoinOfAHeldClient : Prop :=
  ∀ (s : State) (dt : Time) (r : UplinkRecord) (e : ClientEntry), s.sl.nodeState = .running →
    s.rp.uplink.head? = some r → r.body = .joinRequest →
    let v := (s.elapse dt).recordTaken.sample r.client r.rssi r.cell
    let w := (v.handReply (.joinReply r.client .accepted none)).count .joinsAccepted
    let hold : Option Time := some (s.now + dt + 300000000)
    v.findEntry r.client = some e →
    (e.state = .associated → exec (.joinRequest dt) s = .next w) ∧
      (∀ peer x, e.state = .roamIn peer x →
        exec (.joinRequest dt) s =
          .next
            (((e.subscriptions.foldl (fun s id => s.applySubscription r.client id)
              (w.updateEntry r.client
                (fun e => { e with state := .associated, holdDown := hold, subscriptions := [] }))).send peer
                  (.clientMoved r.client false)).count .roamsIn)) ∧
      ∀ peer x, e.state = .roamOut peer x →
        exec (.joinRequest dt) s =
          .next
            ((w.updateEntry r.client (fun e => { e with state := .associated, holdDown := hold })).handReply
              (.moveTo r.client s.own))

/-- LEAVE and INACTIVITY_EXPIRY (R11, R12, R13): an ASSOCIATED or ROAM_OUT entry goes, each of its streams loses one subscriber and no
other stream changes, and the client is sent DROP_CLIENT; a LEAVE without such an entry does no more than its sample and the stray
test. (An inactivity expiry taken late acts when it comes, log 4.) -/
def Obligations.LeaveAndInactivityRemoveTheClient : Prop :=
  ∀ (s : State) (dt : Time) (c : ClientId),
    let removed (e : ClientEntry) (v : State) : State :=
      (v.setAu { v.au with clients := v.au.clients.filter (fun x => x.id != c) }).setRu
        { v.ru with
          catalogue := v.ru.catalogue.map (fun st => if st.id ∈ e.subscriptions then st.lowered else st) }
    (∀ r, s.sl.nodeState ≠ .starting → s.rp.uplink.head? = some r → r.body = .leave → r.client = c →
      let v := (s.elapse dt).recordTaken.sample c r.rssi r.cell
      (∀ e, v.findEntry c = some e → e.state.counted = true → e.subscriptions.Nodup →
        exec (.leave dt) s = .next ((removed e v).handReply (.dropClient c))) ∧
      (∀ e, v.findEntry c = some e → e.state.counted = false → exec (.leave dt) s = .next v) ∧
      (v.findEntry c = none → s.sl.ownAddress = some r.cell → exec (.leave dt) s = .next (v.handReply (.dropClient c))) ∧
      (v.findEntry c = none → s.sl.ownAddress ≠ some r.cell → exec (.leave dt) s = .next v)) ∧
      ∀ e, s.findEntry c = some e → e.state.counted = true → e.subscriptions.Nodup →
        e.lastHeard + (if e.bindings = [] then 600000000 else 1800000000) ≤ s.now + dt →
        exec (.inactivityExpiry dt c) s = .next ((removed e (s.elapse dt)).handReply (.dropClient c))

/-- CAPS_PIECE for an ASSOCIATED entry (R14, R15, R16): index 0 begins an assembly, the expected index goes on with it, any other index
and a sixteenth piece without the last flag abandon it; a stored piece with the last flag makes the assembled bytes the record in use, with
max subscriptions from byte 0 clamped to 1..4 and tier HIGH exactly when byte 1 is 1. The subscription list then comes into line in two
passes: the streams beyond max subscriptions leave it, newest first, and when the tier falls from a record's HIGH to LOW every HIGH stream
left, oldest first; each that leaves is answered REMOVED and has its count lowered. -/
def Obligations.CapabilityPiecesAreAssembled : Prop :=
  ∀ (s : State) (dt : Time) (r : UplinkRecord) (e : ClientEntry) (i : Nat) (last : Bool) (data : List Byte),
    s.sl.nodeState ≠ .starting → s.rp.uplink.head? = some r → r.body = .capsPiece i last data →
    let v := (s.elapse dt).recordTaken.sample r.client r.rssi r.cell
    let assembly (next : Nat) (bytes : List Byte) : State :=
      v.updateEntry r.client (fun e => { e with assemblyNext := next, assemblyBytes := bytes })
    v.findEntry r.client = some e → e.state = .associated →
    (i = 0 → last = false → exec (.capsPiece dt) s = .next (assembly 1 data)) ∧
      (i ≠ 0 → i = e.assemblyNext → last = false → i ≠ 15 →
        exec (.capsPiece dt) s = .next (assembly (i + 1) (e.assemblyBytes ++ data))) ∧
      (i = 15 → i = e.assemblyNext → last = false → exec (.capsPiece dt) s = .next (assembly 0 [])) ∧
      (i ≠ 0 → i ≠ e.assemblyNext → exec (.capsPiece dt) s = .next (assembly 0 [])) ∧
      (i = 0 ∨ i = e.assemblyNext → last = true → e.subscriptions = [] →
        let bytes := if i = 0 then data else e.assemblyBytes ++ data
        exec (.capsPiece dt) s =
          .next
            (v.updateEntry r.client (fun e =>
              { e with
                record := some
                  { maxSubscriptions := max 1 (min 4 (bytes.getD 0 0).toNat),
                    tier := if bytes.getD 1 0 = 1 then .high else .low, bytes := bytes },
                assemblyNext := 0, assemblyBytes := [] }))) ∧
      (i = 0 ∨ i = e.assemblyNext → last = true →
        let bytes := if i = 0 then data else e.assemblyBytes ++ data
        let limit := max 1 (min 4 (bytes.getD 0 0).toNat)
        let tier : Tier := if bytes.getD 1 0 = 1 then .high else .low
        let installed := v.updateEntry r.client (fun e =>
          { e with
            record := some { maxSubscriptions := limit, tier := tier, bytes := bytes }, assemblyNext := 0,
            assemblyBytes := [] })
        let removed (w : State) (streams : List StreamId) : State :=
          streams.foldl
            (fun (w : State) j =>
              ((w.updateEntry r.client (fun x =>
                { x with subscriptions := x.subscriptions.filter (fun k => k != j) })).handReply
                  (.subscribeReply r.client j .removed none)).updateStream j StreamEntry.lowered) w
        let shortened := removed installed (e.subscriptions.drop limit).reverse
        let high (j : StreamId) : Bool := (v.findStream j).any (fun st => st.tier == .high)
        ((∃ old, e.record = some old ∧ old.tier = .high) → tier = .low →
          exec (.capsPiece dt) s = .next (removed shortened ((e.subscriptions.take limit).filter high))) ∧
        (¬ ((∃ old, e.record = some old ∧ old.tier = .high) ∧ tier = .low) →
          exec (.capsPiece dt) s = .next shortened))

/-- SUBSCRIBE_ON and SUBSCRIBE_OFF for an ASSOCIATED entry (R17, R18, R108, R109, R111, R122, R127). On: UNKNOWN_STREAM, OK for a listed
stream, TIER, LIMIT and NO_AIR_GROUP in this order change nothing; a stream that passes is appended to the list, counted and answered OK
with its group. A count that rises from 0 makes a DORMANT stream JOINING with the lowest free group, starting a STOPPED cycle, and a
LEAVING one ACTIVE. Off: a listed stream leaves the list, its count falls, and the answer is OK. A count that falls to 0 makes a JOINING
stream DORMANT with everything it held freed, and an ACTIVE one LEAVING, with its group, cache, next and run kept and its join-marker
clear; any other fall changes the count alone. (applySubscription, which other statements name, is what SUBSCRIBE_ON does after its
sample.) -/
def Obligations.SubscribingChangesListAndCount : Prop :=
  (∀ (s : State) (dt : Time) (r : UplinkRecord) (e : ClientEntry) (i : StreamId), s.sl.nodeState ≠ .starting →
    s.rp.uplink.head? = some r →
    let v := (s.elapse dt).recordTaken.sample r.client r.rssi r.cell
    let answers (w : State) (code : SubscribeCode) (group : Option Nat) : Prop :=
      exec (.subscribeOn dt) s = .next (w.handReply (.subscribeReply r.client i code group))
    let limit := match e.record with
      | none => 1
      | some c => c.maxSubscriptions
    let high : Prop := ∃ c, e.record = some c ∧ c.tier = .high
    let listed := v.updateEntry r.client (fun e => { e with subscriptions := e.subscriptions ++ [i] })
    v.findEntry r.client = some e → e.state = .associated →
    (r.body = .subscribe i true →
      ((∀ st, v.findStream i = some st → st.ended = true) → answers v .unknownStream none) ∧
      ∀ st, v.findStream i = some st → st.ended = false →
        (i ∈ e.subscriptions → answers v .ok st.airGroup) ∧
        (i ∉ e.subscriptions → st.tier = .high → ¬ high → answers v .tier none) ∧
        (i ∉ e.subscriptions → (st.tier = .low ∨ high) →
          (limit ≤ e.subscriptions.length → answers v .limit none) ∧
          (e.subscriptions.length < limit →
            (st.activity = .dormant → (∀ g < 8, ∃ x ∈ v.ru.catalogue, x.airGroup = some g) →
              answers v .noAirGroup none) ∧
            (st.subscribers ≠ 0 → st.activity ≠ .dormant →
              answers (listed.updateStream i (fun x => { x with subscribers := x.subscribers + 1 })) .ok st.airGroup) ∧
            (st.subscribers = 0 → st.activity = .leaving →
              answers (listed.updateStream i (fun x => { x with subscribers := 1, activity := .active })) .ok
                st.airGroup) ∧
            (∀ g, st.subscribers = 0 → st.activity = .dormant → g < 8 → (∀ x ∈ v.ru.catalogue, x.airGroup ≠ some g) →
              (∀ g', g' < g → ∃ x ∈ v.ru.catalogue, x.airGroup = some g') →
              let joined := listed.updateStream i (fun x =>
                { x with subscribers := 1, activity := .joining, airGroup := some g, next := none, underrunRun := 0,
                         joinMarker := false })
              answers (if s.ru.cycle.running then joined else joined.startCycleFromStopped) .ok (some g))))) ∧
      (r.body = .subscribe i true → exec (.subscribeOn dt) s = .next (v.applySubscription r.client i)) ∧
      (r.body = .subscribe i false →
        exec (.subscribeOff dt) s =
          .next
            ((if i ∈ e.subscriptions then
              (v.updateEntry r.client
                (fun e => { e with subscriptions := e.subscriptions.filter (fun x => x != i) })).updateStream i
                  StreamEntry.lowered
            else v).handReply (.subscribeReply r.client i .ok none)))) ∧
    ∀ x : StreamEntry,
      (2 ≤ x.subscribers → x.lowered = { x with subscribers := x.subscribers - 1 }) ∧
        (x.subscribers ≤ 1 →
          (x.activity = .joining →
            x.lowered =
              { x with
                subscribers := 0, activity := .dormant, airGroup := none, next := none, underrunRun := 0,
                joinMarker := false, aired := none, unaired := [] }) ∧
          (x.activity = .active →
            x.lowered = { x with subscribers := 0, activity := .leaving, joinMarker := false }) ∧
          (x.activity = .dormant ∨ x.activity = .leaving → x.lowered = { x with subscribers := 0 }))

/-! ## Tokens and seats (chapters 4 and 5) -/

/-- TOKEN, refused at its origin (R65): the first test that fails gives the code, sent to the client with the token's own seat. -/
def Obligations.TokenTestsRunInOrder : Prop :=
  ∀ (s : State) (dt : Time) (r : UplinkRecord) (t : Token), s.sl.nodeState ≠ .starting → s.rp.uplink.head? = some r →
    r.body = .token t →
    let v := ((s.elapse dt).recordTaken.sample r.client r.rssi r.cell).strayTest r
    let answered (code : TokenCode) : Prop :=
      exec (.token dt) s = .next (v.deliver r.client t.serial t.seat code s.own)
    (s.sv.matchState = .closed → answered .matchClosed) ∧
      (s.sv.matchState = .opened → s.sl.nodeState ≠ .running → answered .tryAgain) ∧
      (s.sv.matchState = .opened → s.sl.nodeState = .running →
        (t.serial = 0 ∨ t.seat < 1 ∨ 999 < t.seat → answered .refusedForm) ∧
        (t.serial ≠ 0 → 1 ≤ t.seat → t.seat ≤ 999 → ∀ k, s.par.codes = some k →
          (t.matchCode ≠ k.matchCode → answered .refusedMatch) ∧
          (t.matchCode = k.matchCode → t.rowCode ≠ k.rowCode → answered .refusedRow) ∧
          (t.matchCode = k.matchCode → t.rowCode = k.rowCode →
            t.check ≠ crc16 k.matchKey
              (beBytes 4 t.serial.toNat ++ beBytes 2 t.matchCode.toNat ++ beBytes 2 t.rowCode.toNat ++ beBytes 2 t.seat) →
            answered .refusedCheck)))

/-- TOKEN that passes R65 and names a seat of the own block (R67, R69): the seat decision for {serial, client, own address} is delivered to
the client. A delivery hands over TOKEN_REPLY with the code and seat; ACCEPTED and HELD also record the binding in a client entry that is
ASSOCIATED or ROAM_OUT and count TOKENS_ACCEPTED; the REFUSED codes count TOKENS_REFUSED. A binding is recorded in the place of the one with
its serial, and otherwise as the newest, for which the oldest of 4 is dropped (R19). -/
def Obligations.TokenForAnOwnSeatIsDecided : Prop :=
  (∀ (s : State) (dt : Time) (r : UplinkRecord) (t : Token), s.sl.nodeState = .running → s.sv.matchState = .opened →
    s.sl.defaulted = false → s.rp.uplink.head? = some r → r.body = .token t → s.tokenRefusal t = none →
    (∃ b, s.par.block = some b ∧ b.first ≤ t.seat ∧ t.seat ≤ b.last) →
    let v := ((s.elapse dt).recordTaken.sample r.client r.rssi r.cell).strayTest r
    let d := v.decideSeat t.seat { serial := t.serial, client := r.client, origin := s.own }
    exec (.token dt) s = .next (d.1.deliver r.client t.serial t.seat d.2 s.own)) ∧
    (∀ (s : State) (c : ClientId) (n : Serial) (seat : Seat) (code : TokenCode) (owner : Station),
      let replied := s.handReply (.tokenReply c code seat)
      let b : Binding := { seat := seat, serial := n, owner := owner }
      (code = .accepted ∨ code = .held →
        (∀ e, s.findEntry c = some e → e.state.counted = true →
          s.deliver c n seat code owner =
            (replied.updateEntry c (fun e => { e with bindings := recordInList e.bindings b })).count .tokensAccepted) ∧
        ((∀ e, s.findEntry c = some e → e.state.counted = false) →
          s.deliver c n seat code owner = replied.count .tokensAccepted)) ∧
      (code = .refusedForm ∨ code = .refusedMatch ∨ code = .refusedRow ∨ code = .refusedCheck ∨ code = .refusedBlocked ∨
        code = .refusedContest → s.deliver c n seat code owner = replied.count .tokensRefused) ∧
      (code = .pending ∨ code = .tryAgain ∨ code = .matchClosed ∨ code = .notOwner ∨ code = .contestBusy →
        s.deliver c n seat code owner = replied)) ∧
    ∀ (l : List Binding) (b : Binding),
      (b.serial ∈ l.map (·.serial) → recordInList l b = l.map (fun x => if x.serial = b.serial then b else x)) ∧
        (b.serial ∉ l.map (·.serial) → l.length < 4 → recordInList l b = l ++ [b]) ∧
        (b.serial ∉ l.map (·.serial) → 4 ≤ l.length → recordInList l b = l.tail ++ [b])

/-- TOKEN that passes R65 and names a seat the node does not own (R67, R68): with a pending entry for its client and serial it is absorbed;
at 8 pending entries it is answered TRY_AGAIN; else a pending entry with a 1 s timer is appended, and a TOKEN_FORWARD goes to the lowest
LIVE NODE peer whose block holds the seat, or to station 30 when there is none or the node is defaulted. -/
def Obligations.TokenForAForeignSeatIsForwarded : Prop :=
  ∀ (s : State) (dt : Time) (r : UplinkRecord) (t : Token), s.sl.nodeState = .running → s.sv.matchState = .opened →
    s.rp.uplink.head? = some r → r.body = .token t → s.tokenRefusal t = none →
    (s.sl.defaulted = true ∨ ∀ b, s.par.block = some b → t.seat < b.first ∨ b.last < t.seat) →
    let v := ((s.elapse dt).recordTaken.sample r.client r.rssi r.cell).strayTest r
    let waits : Prop := ∃ p ∈ v.sv.pendingTokens, p.client = r.client ∧ p.token.serial = t.serial
    let owns (p : PeerEntry) : Prop :=
      p ∈ s.anu.peers ∧ p.cls = .node ∧ p.status = .live ∧ ∃ b, p.block = some b ∧ b.first ≤ t.seat ∧ t.seat ≤ b.last
    (waits → exec (.token dt) s = .next v) ∧
      (¬ waits → 8 ≤ v.sv.pendingTokens.length →
        exec (.token dt) s = .next (v.handReply (.tokenReply r.client .tryAgain t.seat))) ∧
      (¬ waits → v.sv.pendingTokens.length < 8 →
        ∃ d,
          exec (.token dt) s =
            .next
              ((v.setSv
                { v.sv with
                  pendingTokens := v.sv.pendingTokens ++
                    [{ client := r.client, token := t, destination := d, reforwarded := false,
                       expiry := s.now + dt + 10000000 }] }).send d (.tokenForward r.client t)) ∧
          ((s.sl.defaulted = true ∨ ¬ ∃ p, owns p) → d = 30) ∧
          (s.sl.defaulted = false → ∀ p, owns p → d ≤ p.station) ∧
          (s.sl.defaulted = false → (∃ p, owns p) → ∃ p, owns p ∧ p.station = d))

/-- The seat decision (R74, R76, R77, R86), in the order of its tests; and the test of presence (R78): the client's entry, in any state,
else its sighting, in any status, has S at or above four times the presence threshold. -/
def Obligations.SeatDecisionFollowsItsTable : Prop :=
  (∀ (s : State) (n : Seat) (h : Holder),
    (s.findSeat n = none → s.decideSeat n h = (s, .notOwner)) ∧
      ∀ x, s.findSeat n = some x →
        (x.state = .blocked → s.decideSeat n h = (s, .refusedBlocked)) ∧
        (x.state ≠ .blocked →
          ((∃ y ∈ s.sv.seats, y.number ≠ n ∧ ∃ b, y.state.holder = some b ∧ b.serial = h.serial) ∨
            (∃ a ∈ s.sv.authority, a.seat ≠ n ∧ a.challenger.serial = h.serial) →
            s.decideSeat n h = (s, .refusedContest)) ∧
          ((¬ ∃ y ∈ s.sv.seats, y.number ≠ n ∧ ∃ b, y.state.holder = some b ∧ b.serial = h.serial) →
            (¬ ∃ a ∈ s.sv.authority, a.seat ≠ n ∧ a.challenger.serial = h.serial) →
            (∀ p b, x.state = .contested p b → s.decideSeat n h = (s, .contestBusy)) ∧
            (x.state = .vacant → s.present h.client = false →
              s.decideSeat n h = (s.updateSeat n (fun y => { y with state := .bound .held h, heldSince := s.now }), .held)) ∧
            (x.state = .vacant → s.present h.client = true →
              s.decideSeat n h =
                (s.updateSeat n (fun y =>
                  { y with state := .bound .occupied h, heldSince := s.now, lastPresent := s.now }), .accepted)) ∧
            ∀ st b, x.state = .bound st b →
              (b.serial = h.serial → b.client = h.client → s.present h.client = true →
                s.decideSeat n h =
                  (s.updateSeat n (fun y => { y with state := .bound .occupied h, lastPresent := s.now }), .accepted)) ∧
              (b.serial = h.serial → b.client = h.client → s.present h.client = false →
                s.decideSeat n h =
                  (s.updateSeat n (fun y => { y with state := .bound st h }),
                    if st = .held then .held else .accepted)) ∧
              (¬ (b.serial = h.serial ∧ b.client = h.client) → 8 ≤ s.sv.authority.length →
                s.decideSeat n h = (s, .contestBusy)) ∧
              (¬ (b.serial = h.serial ∧ b.client = h.client) → s.sv.authority.length < 8 →
                let reason : ContestReason := if b.serial = h.serial then .duplicateSerial else .doubleSale
                let u := s.updateSeat n (fun y => { y with state := .contested st b })
                s.decideSeat n h =
                  (((u.setSv
                    { u.sv with
                      authority := s.sv.authority ++
                        [{ seat := n, reason := reason, challenger := h, attempts := 1,
                           expiry := s.now + 100000000 }] }).send 30 (.authorityQuery n reason b h)).count .contests,
                    .pending))))) ∧
    ∀ (s : State) (c : ClientId),
      (∀ e, s.findEntry c = some e → (s.present c = true ↔ 4 * s.par.presenceThreshold ≤ e.signal)) ∧
        (∀ g, s.findEntry c = none → s.findSighting c = some g →
          (s.present c = true ↔ 4 * s.par.presenceThreshold ≤ g.signal)) ∧
        (s.findEntry c = none → s.findSighting c = none → s.present c = false)

/-- TOKEN_FORWARD (R75): one sent to station 0 is discarded; one sent to this node is answered with one TOKEN_RESULT to its source:
MATCH_CLOSED while the match is closed, TRY_AGAIN outside RUNNING, else the seat decision with the source as origin. -/
def Obligations.ForwardedTokenIsAnswered : Prop :=
  ∀ (s : State) (dt : Time) (f : RxFrame) (c : ClientId) (t : Token), s.sl.nodeState ≠ .starting →
    s.oldestFor .seatValidator = some f → f.kind = .tokenForward → f.message = some (.tokenForward c t) →
    1 ≤ f.source → f.source ≤ 30 →
    let u := (s.elapse dt).released .seatValidator
    let answered (v : State) (code : TokenCode) : Prop :=
      exec (.tokenForward dt) s = .next (v.send f.source (.tokenResult c t.serial t.seat code))
    (f.destination = 0 → exec (.tokenForward dt) s = .next u) ∧
      (f.destination ≠ 0 →
        (s.sv.matchState = .closed → answered u .matchClosed) ∧
        (s.sv.matchState = .opened → s.sl.nodeState ≠ .running → answered u .tryAgain) ∧
        (s.sv.matchState = .opened → s.sl.nodeState = .running →
          let d := u.decideSeat t.seat { serial := t.serial, client := c, origin := f.source }
          answered d.1 d.2))

/-- TOKEN_RESULT and PENDING_TOKEN_TIMER_EXPIRY (R70 to R72): a result that matches a pending entry is delivered and the entry goes, but a
first NOT_OWNER sends the token on to station 30; one that matches none is delivered to a client held ASSOCIATED or ROAM_OUT and discarded
otherwise; every result is discarded while the match is CLOSED (R82); the timer delivers TRY_AGAIN and removes the entry (one taken late
acts when it comes, log 4). (A serial or seat out of range, which no rule tests in a result, is taken as carried, log 30.) -/
def Obligations.ResultSettlesThePendingToken : Prop :=
  ∀ (s : State) (dt : Time) (source : Station) (c : ClientId) (n : Serial) (seat : Seat) (code : TokenCode),
    let u := (s.elapse dt).released .seatValidator
    let without (v : State) : State :=
      v.setSv
        { v.sv with
          pendingTokens := v.sv.pendingTokens.filter (fun p => !(p.client == c && p.token.serial == n)) }
    (s.sl.nodeState ≠ .starting → s.sv.matchState = .closed →
      s.carries .seatValidator source (.tokenResult c n seat code) → exec (.tokenResult dt) s = .next u) ∧
    (s.sl.nodeState ≠ .starting → s.sv.matchState = .opened →
      s.carries .seatValidator source (.tokenResult c n seat code) →
      (∀ p, s.findPending c n = some p → ¬ (code = .notOwner ∧ p.reforwarded = false) →
        exec (.tokenResult dt) s = .next ((without u).deliver c n seat code source)) ∧
      (∀ p, s.findPending c n = some p → code = .notOwner → p.reforwarded = false →
        ∃ t, exec (.tokenResult dt) s = .next t ∧
          t =
            (u.setSv
              { u.sv with
                pendingTokens := u.sv.pendingTokens.map (fun x =>
                  if x.client == c && x.token.serial == n then
                    { p with destination := 30, reforwarded := true, expiry := s.now + dt + 10000000 }
                  else x) }).send 30 (.tokenForward c p.token)) ∧
      (s.findPending c n = none → ∀ e, s.findEntry c = some e → e.state.counted = true →
        exec (.tokenResult dt) s = .next (u.deliver c n seat code source)) ∧
      (s.findPending c n = none → (∀ e, s.findEntry c = some e → e.state.counted = false) →
        exec (.tokenResult dt) s = .next u)) ∧
      ∀ p, s.findPending c n = some p → p.expiry ≤ s.now + dt →
        exec (.pendingTokenTimerExpiry dt c n) s =
          .next (without ((s.elapse dt).deliver c n p.token.seat .tryAgain s.own))

/-- SEAT_HOLD_EXPIRY and SEAT_RELEASED (R20, R80): a HELD seat whose hold time has passed is VACANT, a SEAT_RELEASED for its binding goes
to all stations and the own Association Unit applies it; a received release removes from the client's entry the binding with its serial
and seat, and the entry too when that leaves it past its inactivity deadline (R12). (A hold expiry taken late acts when it comes, log 4.) -/
def Obligations.HoldExpiryReleasesTheSeat : Prop :=
  ∀ (s : State) (dt : Time),
    (∀ (n : Seat) (x : SeatRecord) (h : Holder), s.findSeat n = some x → x.state = .bound .held h →
      x.heldSince + 10000000 * s.par.holdSeconds ≤ s.now + dt →
      exec (.seatHoldExpiry dt n) s =
        .next
          ((((s.elapse dt).updateSeat n (fun y => { y with state := .vacant })).send 0
            (.seatReleased h.client h.serial n)).releaseBinding h.client h.serial n)) ∧
      ∀ (source : Station) (c : ClientId) (n : Serial) (seat : Seat) (e : ClientEntry), s.sl.nodeState ≠ .starting →
        s.carries .associationUnit source (.seatReleased c n seat) → s.findEntry c = some e →
        (∃ b ∈ e.bindings, b.serial = n ∧ b.seat = seat) →
        let u := (s.elapse dt).released .associationUnit
        let kept := e.bindings.filter (fun b => !(b.serial == n && b.seat == seat))
        let v := u.updateEntry c
          (fun e => { e with bindings := e.bindings.filter (fun b => !(b.serial == n && b.seat == seat)) })
        (kept ≠ [] ∨ s.now + dt < e.lastHeard + 600000000 → s.now + dt < e.lastHeard + 1800000000 →
          exec (.seatReleased dt) s = .next v) ∧
        (kept = [] → e.state.counted = true → e.lastHeard + 600000000 ≤ s.now + dt →
          exec (.seatReleased dt) s = .next ((v.removeEntry c).handReply (.dropClient c)))

/-- AUTHORITY_TIMER_EXPIRY (R89, R90, R91, R93): at attempts 1 the query goes out again, attempts is 2 and the timer restarts; at attempts
2 KEEP is applied and NOTICE CONTEST_DEFAULTED is armed for the seat. KEEP returns the seat to its prior state with its binding, removes the
authority entry and tells the challenger REFUSED_CONTEST, through its origin or directly when that is this node; then a seat back in HELD
whose hold time has passed is VACANT, and its SEAT_RELEASED goes out and is applied here (in this order by log 14). (A timer taken late acts
and counts from when it comes, log 4.) -/
def Obligations.AuthorityTimerResendsThenDefaults : Prop :=
  (∀ (s : State) (dt : Time) (n : Seat) (a : AuthorityEntry) (x : SeatRecord) (prior : BoundState) (h : Holder),
    s.findAuthority n = some a → a.expiry ≤ s.now + dt → s.findSeat n = some x → x.state = .contested prior h →
    let u := s.elapse dt
    (a.attempts = 1 →
      exec (.authorityTimerExpiry dt n) s =
        .next
          ((u.setSv
            { u.sv with
              authority := u.sv.authority.map (fun y =>
                if y.seat == n then { a with attempts := 2, expiry := s.now + dt + 100000000 } else y) }).send 30
            (.authorityQuery n a.reason h a.challenger))) ∧
      (a.attempts = 2 →
        exec (.authorityTimerExpiry dt n) s = .next ((u.applyKeep a).armNotice .contestDefaulted n))) ∧
    ∀ (s : State) (n : Seat) (a : AuthorityEntry) (x : SeatRecord) (prior : BoundState) (h : Holder),
      s.findAuthority n = some a → s.findSeat n = some x → x.state = .contested prior h →
      let b := a.challenger
      let back := s.setSv
        { s.sv with
          seats := s.sv.seats.map (fun y => if y.number == n then y.restored else y),
          authority := s.sv.authority.filter (fun y => y.seat != n) }
      let told :=
        if s.sl.ownAddress = some b.origin then back.deliverUnsolicited b.client b.serial n .refusedContest b.origin
        else back.send b.origin (.tokenResult b.client b.serial n .refusedContest)
      x.restored = { x with state := .bound prior h } ∧
        (prior ≠ .held ∨ s.now < x.heldSince + 10000000 * s.par.holdSeconds → s.applyKeep a = told) ∧
        (prior = .held → x.heldSince + 10000000 * s.par.holdSeconds ≤ s.now →
          s.applyKeep a =
            ((told.updateSeat n (fun y => { y with state := .vacant })).send 0
              (.seatReleased h.client h.serial n)).releaseBinding h.client h.serial n)

/-- The four AUTHORITY_ANSWERs (R92 to R96, R98, R100). One whose source is not station 30 is discarded, and so is one of the first three
without an authority entry, and an UNBLOCK of a seat that is not BLOCKED. KEEP: the seat returns to its prior state with its binding, and
a HELD one past its hold time is VACANT and released once the challenger is told (in this order by log 14). REPLACE: the incumbent is
released, and the seat is HELD for the challenger from now. BLOCK: the incumbent is released, and the seat is BLOCKED. UNBLOCK: a BLOCKED
seat is VACANT. The first three remove the authority entry and tell the challenger's origin its code, or the challenger itself when that
is this node. -/
def Obligations.VerdictsEndTheContest : Prop :=
  ∀ (s : State) (dt : Time) (n : Seat) (a : AuthorityEntry) (x : SeatRecord) (prior : BoundState) (h : Holder),
    s.sl.nodeState ≠ .starting →
    let u := (s.elapse dt).released .seatValidator
    let b := a.challenger
    let tell (v : State) (code : TokenCode) : State :=
      let w := v.setSv { v.sv with authority := v.sv.authority.filter (fun y => y.seat != n) }
      if s.sl.ownAddress = some b.origin then w.deliverUnsolicited b.client b.serial n code b.origin
      else w.send b.origin (.tokenResult b.client b.serial n code)
    (s.findAuthority n = none →
      (s.carries .seatValidator 30 (.authorityAnswer n .keep) → exec (.authorityAnswerKeep dt) s = .next u) ∧
      (s.carries .seatValidator 30 (.authorityAnswer n .replace) → exec (.authorityAnswerReplace dt) s = .next u) ∧
      (s.carries .seatValidator 30 (.authorityAnswer n .block) → exec (.authorityAnswerBlock dt) s = .next u)) ∧
    (s.findAuthority n = some a → s.findSeat n = some x → x.state = .contested prior h →
      (s.carries .seatValidator 30 (.authorityAnswer n .keep) →
        prior ≠ .held ∨ s.now + dt < x.heldSince + 10000000 * s.par.holdSeconds →
        exec (.authorityAnswerKeep dt) s = .next (tell (u.updateSeat n SeatRecord.restored) .refusedContest)) ∧
      (s.carries .seatValidator 30 (.authorityAnswer n .keep) →
        prior = .held → x.heldSince + 10000000 * s.par.holdSeconds ≤ s.now + dt →
        exec (.authorityAnswerKeep dt) s =
          .next
            ((((tell (u.updateSeat n SeatRecord.restored) .refusedContest).updateSeat n (fun y =>
              { y with state := .vacant })).send 0 (.seatReleased h.client h.serial n)).releaseBinding h.client h.serial
                n)) ∧
      (s.carries .seatValidator 30 (.authorityAnswer n .replace) →
        exec (.authorityAnswerReplace dt) s =
          .next
            (tell
              (((u.send 0 (.seatReleased h.client h.serial n)).releaseBinding h.client h.serial n).updateSeat n (fun y =>
                { y with state := .bound .held a.challenger, heldSince := s.now + dt })) .held)) ∧
      (s.carries .seatValidator 30 (.authorityAnswer n .block) →
        exec (.authorityAnswerBlock dt) s =
          .next
            (tell
              (((u.send 0 (.seatReleased h.client h.serial n)).releaseBinding h.client h.serial n).updateSeat n (fun y =>
                { y with state := .blocked })) .refusedBlocked))) ∧
      (s.carries .seatValidator 30 (.authorityAnswer n .unblock) → s.findSeat n = some x → x.state = .blocked →
        ∃ t, exec (.authorityAnswerUnblock dt) s = .next t ∧ t = u.setSv { s.sv with seats := t.sv.seats } ∧
          t.findSeat n = some { x with state := .vacant } ∧ ∀ m, m ≠ n → t.findSeat m = s.findSeat m) ∧
      (s.carries .seatValidator 30 (.authorityAnswer n .unblock) →
        (∀ y ∈ s.sv.seats, y.number = n → y.state ≠ .blocked) → exec (.authorityAnswerUnblock dt) s = .next u) ∧
      ∀ (source : Station) (v : Verdict) (c : Instr), source ≠ 30 →
        (Message.authorityAnswer n v).command dt = some (.seatValidator, c) →
        s.carries .seatValidator source (.authorityAnswer n v) → exec c s = .next u

/-- MATCH_STATE_OPEN, MATCH_STATE_CLOSED and BLOCK_RESET_TICKET from station 30 (R82 to R84): OPEN changes the match state alone; CLOSED
and the reset make every seat VACANT, empty the authority list and answer every pending token, oldest first; CLOSED alone sets the match
state and empties every entry's bindings. An ASSOCIATED or ROAM_OUT entry that this leaves 60 s or more unheard is removed for inactivity
and its client sent DROP_CLIENT (R12, R20), in an order that the manual leaves open: the model draws it as a free value, one draw for each
CLOSED (log 9). -/
def Obligations.MatchCloseClearsSeats : Prop :=
  ∀ (s : State) (dt : Time), s.sl.nodeState ≠ .starting →
    let u := (s.elapse dt).released .seatValidator
    let cleared (m : MatchState) : State :=
      u.setSv
        { matchState := m, seats := s.sv.seats.map (fun x => { x with state := .vacant }), pendingTokens := [],
          authority := [] }
    let answered (v : State) (code : TokenCode) : State :=
      s.sv.pendingTokens.foldl (fun v p => v.handReply (.tokenReply p.client code p.token.seat)) v
    let closed :=
      ((answered (cleared .closed) .matchClosed).setAu
        { s.au with clients := s.au.clients.map (fun e => { e with bindings := [] }) }).drawn
    let dropped (v : State) (e : ClientEntry) : State :=
      ((v.setAu { v.au with clients := v.au.clients.filter (fun x => x.id != e.id) }).setRu
        { v.ru with
          catalogue := v.ru.catalogue.map (fun st => if st.id ∈ e.subscriptions then st.lowered else st) }).handReply
        (.dropClient e.id)
    (s.carries .seatValidator 30 (.matchState .opened) →
      exec (.matchStateOpen dt) s = .next (u.setSv { s.sv with matchState := .opened })) ∧
      (s.carries .seatValidator 30 (.blockReset .ticket) →
        exec (.blockResetTicket dt) s = .next (answered (cleared s.sv.matchState) .tryAgain)) ∧
      (s.carries .seatValidator 30 (.matchState .closed) →
        (∀ e ∈ s.au.clients, s.now + dt < e.lastHeard + 600000000) →
        exec (.matchStateClosed dt) s =
          .next
            (((answered (cleared .closed) .matchClosed).setAu
              { s.au with clients := s.au.clients.map (fun e => { e with bindings := [] }) }).drawn)) ∧
      (s.carries .seatValidator 30 (.matchState .closed) → (s.au.clients.map (·.id)).Nodup →
        (∀ e ∈ s.au.clients, e.subscriptions.Nodup) →
        ∃ order : List ClientEntry,
          order.Perm
              (s.au.clients.filter (fun e =>
                e.state.counted && decide (e.bindings ≠ [] ∧ e.lastHeard + 600000000 ≤ s.now + dt))) ∧
            exec (.matchStateClosed dt) s = .next (order.foldl dropped closed))

/-! ## Roaming (chapter 3) -/

/-- ROAM_CLAIM (R41 to R44): the reasons of a denial in their order, each sent to the claimant with the stored score (0 with no entry);
otherwise the entry is ROAM_OUT for 3 s, and a ROAM_GRANT with its context and a MOVE_TO go out and ROAMS_OUT counts. A roam frame of any
kind is discarded when its source is not 1..29 (0, 30 and 31 by R36, those above 31 by log 10) or its client ID is 0 (R36). (That a
claimant score above 1010, which no rule tests, is compared as carried is the model's choice, log 30.) -/
def Obligations.ClaimIsDeniedOrGranted : Prop :=
  (∀ (s : State) (dt : Time) (source : Station) (c : ClientId) (n : Nat), s.sl.nodeState ≠ .starting →
    s.carries .roamEngine source (.roamClaim c n) → 1 ≤ source → source ≤ 29 → c ≠ 0 →
    let u := (s.elapse dt).released .roamEngine
    let denied (v : State) (reason : DenyReason) (score : Nat) : Prop :=
      exec (.roamClaim dt) s = .next (v.send source (.roamDeny c reason score))
    (s.findEntry c = none → denied u .notServing 0) ∧
      ∀ e, s.findEntry c = some e →
        (∀ a x, e.state = .reserved a x ∨ e.state = .roamIn a x → denied u .notServing e.score) ∧
        (∀ a x, e.state = .roamOut a x → denied u .busy e.score) ∧
        (e.state = .associated →
          (4 ≤ s.au.clients.countP ClientEntry.isRoamOut → denied u .busy e.score) ∧
          (s.au.clients.countP ClientEntry.isRoamOut < 4 →
            (e.holdDown ≠ none → denied u .hold e.score) ∧
            (e.holdDown = none →
              let own := servingScore e.signal s.ru.occupancy s.au.clients.length (s.home c)
              (n < own + s.par.margin → denied (u.rescore c) .score own) ∧
              (own + s.par.margin ≤ n →
                exec (.roamClaim dt) s =
                  .next
                    (((((u.rescore c).updateEntry c (fun e =>
                      { e with state := .roamOut source (s.now + dt + 30000000), contextWait := none })).send source
                        (.roamGrant c
                          { bindings := e.bindings, subscriptions := e.subscriptions, record := e.record })).handReply
                        (.moveTo c source)).count .roamsOut)))))) ∧
    ∀ (s : State) (dt : Time) (f : RxFrame) (m : Message) (c : Instr), m.command dt = some (.roamEngine, c) →
      s.oldestFor .roamEngine = some f → f.kind = m.kind → f.message = some m →
      f.source = 0 ∨ 30 ≤ f.source ∨ clientAt f.payload 0 = 0 → exec c s = .next ((s.elapse dt).released .roamEngine)

/-- ROAM_GRANT (R46, R47): the answer to the claim makes the entry ROAM_IN for 2 s with the grant's context; a grant that finds no entry
at a RUNNING node with room makes an unsampled ROAM_IN entry at S −400 (log 8) and takes the sighting away; one that finds no place, or a
RESERVED or ROAM_IN entry toward another station, is returned; a repeated one is discarded; one that finds the client held here has its
context merged if it is awaited, and is answered with a CLIENT_MOVED that wants no context. -/
def Obligations.GrantIsTakenOrReturned : Prop :=
  ∀ (s : State) (dt : Time) (source : Station) (c : ClientId) (x : Context), s.sl.nodeState ≠ .starting →
    s.carries .roamEngine source (.roamGrant c x) → 1 ≤ source → source ≤ 29 → c ≠ 0 →
    let u := (s.elapse dt).released .roamEngine
    (∀ e until_, s.findEntry c = some e → e.state = .reserved source until_ →
      exec (.roamGrant dt) s =
        .next
          (u.updateEntry c (fun e =>
            { e with
              state := .roamIn source (s.now + dt + 20000000), bindings := x.bindings, subscriptions := x.subscriptions,
              record := x.record }))) ∧
      (s.findEntry c = none → s.sl.nodeState = .running → s.au.clients.length < s.par.limit →
        ∃ t, exec (.roamGrant dt) s = .next t ∧ t = u.setAu t.au ∧
          t.findEntry c =
            some
              { id := c, state := .roamIn source (s.now + dt + 20000000), signal := -400, sampled := false,
                lastHeard := s.now + dt,
                score := servingScore (-400) s.ru.occupancy (s.au.clients.length + 1) (s.home c), bindings := x.bindings,
                subscriptions := x.subscriptions, record := x.record, assemblyNext := 0, assemblyBytes := [],
                holdDown := none, contextWait := none } ∧
          t.findSighting c = none ∧ t.au.clients.length = s.au.clients.length + 1 ∧
          ∀ d, d ≠ c → t.findEntry d = s.findEntry d ∧ t.findSighting d = s.findSighting d) ∧
      (s.findEntry c = none → s.sl.nodeState ≠ .running ∨ s.par.limit ≤ s.au.clients.length →
        exec (.roamGrant dt) s = .next (u.send source (.roamReturn c))) ∧
      (∀ e a until_, s.findEntry c = some e → (e.state = .reserved a until_ ∨ e.state = .roamIn a until_) → a ≠ source →
        exec (.roamGrant dt) s = .next (u.send source (.roamReturn c))) ∧
      (∀ e until_, s.findEntry c = some e → e.state = .roamIn source until_ → exec (.roamGrant dt) s = .next u) ∧
      ∀ e, s.findEntry c = some e → e.state.counted = true →
        (e.awaits source = true →
          exec (.roamGrant dt) s = .next ((u.mergeContext c x).send source (.clientMoved c false))) ∧
        (e.awaits source = false → exec (.roamGrant dt) s = .next (u.send source (.clientMoved c false)))

/-- ROAM_DENY, CLAIM_TIMER_EXPIRY, ROAM_IN_TIMER_EXPIRY, GRANT_TIMER_EXPIRY and ROAM_RETURN (R48, R49, R52 to R54). A reservation that
ends without a grant leaves a sighting in BACKOFF for 5 s, with the entry's S and last-heard time and the station it claimed from (a free
place in the sighting list, R4). A ROAM_IN entry goes without a trace. A ROAM_OUT entry is ASSOCIATED again, without a hold-down after the
timer and with one of 30 s after a return, and MOVE_TO names this node. (The sighting list is kept in rising order of client ID, log 21; a
timer taken late acts, and the back-off and the removal count, from when it comes, log 4.) -/
def Obligations.RoamExchangesEnd : Prop :=
  ∀ (s : State) (dt : Time) (c : ClientId) (e : ClientEntry) (a : Station) (until_ : Time), s.findEntry c = some e →
    let gone (u : State) : State := u.setAu { u.au with clients := u.au.clients.filter (fun x => x.id != c) }
    let backedOff (u : State) : State :=
      (gone u).setAu
        { clients := (gone u).au.clients,
          sightings := putBy (fun x => x.id.toNat)
            { id := c, signal := e.signal, lastHeard := e.lastHeard, cell := a,
              status := .backoff (s.now + dt + 50000000), removal := s.now + dt + 100000000 } s.au.sightings }
    let back (u : State) (hold : Option Time) : State :=
      (u.updateEntry c (fun e => { e with state := .associated, holdDown := hold })).handReply (.moveTo c s.own)
    let taken := (s.elapse dt).released .roamEngine
    (e.state = .reserved a until_ → s.au.sightings.length < 32 →
      (until_ ≤ s.now + dt → exec (.claimTimerExpiry dt c) s = .next (backedOff (s.elapse dt))) ∧
      ∀ reason n, s.sl.nodeState ≠ .starting → s.carries .roamEngine a (.roamDeny c reason n) → 1 ≤ a → a ≤ 29 → c ≠ 0 →
        exec (.roamDeny dt) s = .next (backedOff taken)) ∧
      (e.state = .roamIn a until_ → until_ ≤ s.now + dt →
        exec (.roamInTimerExpiry dt c) s = .next (gone (s.elapse dt))) ∧
      (e.state = .roamOut a until_ → until_ ≤ s.now + dt →
        exec (.grantTimerExpiry dt c) s = .next (back (s.elapse dt) none)) ∧
      (e.state = .roamOut a until_ → s.sl.nodeState ≠ .starting → s.carries .roamEngine a (.roamReturn c) → 1 ≤ a →
        a ≤ 29 → c ≠ 0 → exec (.roamReturn dt) s = .next (back taken (some (s.now + dt + 300000000))))

/-- CLIENT_MOVED (R58): when context is wanted, a CONTEXT_REPLY with the entry's context, or EMPTY, goes to the source; then the entry is
removed whatever its state, its counted streams lowered (R13), and nothing goes down the radio link. -/
def Obligations.MovedClientIsLetGo : Prop :=
  ∀ (s : State) (dt : Time) (source : Station) (c : ClientId) (wanted : Bool), s.sl.nodeState ≠ .starting →
    s.carries .roamEngine source (.clientMoved c wanted) → 1 ≤ source → source ≤ 29 → c ≠ 0 →
    let u := (s.elapse dt).released .roamEngine
    let replied (x : Option Context) : State := if wanted then u.send source (.contextReply c x) else u
    (s.findEntry c = none → exec (.clientMoved dt) s = .next (replied none)) ∧
      ∀ e, s.findEntry c = some e → e.subscriptions.Nodup →
        let v := replied (some { bindings := e.bindings, subscriptions := e.subscriptions, record := e.record })
        exec (.clientMoved dt) s =
          .next
            ((v.setAu { v.au with clients := v.au.clients.filter (fun x => x.id != c) }).setRu
              { v.ru with
                catalogue :=
                  if e.state.counted then
                    v.ru.catalogue.map (fun st => if st.id ∈ e.subscriptions then st.lowered else st)
                  else v.ru.catalogue })

/-- CONTEXT_REPLY (R59). For an entry that does not await it, nothing. For an ASSOCIATED entry whose context wait names the source: EMPTY
ends the wait alone; with a context, bindings are appended up to 4, skipping serials already held, the record is installed when the entry
has none, each stream not yet listed is applied afresh in order, and the wait ends. The bindings are appended one by one in the context's
order: each while the list holds fewer than 4 and none with its serial, else it is dropped. -/
def Obligations.AwaitedContextIsMerged : Prop :=
  (∀ (s : State) (dt : Time) (source : Station) (c : ClientId) (x : Option Context),
    s.sl.nodeState ≠ .starting → s.carries .roamEngine source (.contextReply c x) → 1 ≤ source → source ≤ 29 → c ≠ 0 →
    let u := (s.elapse dt).released .roamEngine
    let ended (v : State) : State := v.updateEntry c (fun e => { e with contextWait := none })
    ((∀ e, s.findEntry c = some e → e.awaits source = false) → exec (.contextReply dt) s = .next u) ∧
      ∀ e until_, s.findEntry c = some e → e.state = .associated →
        e.contextWait = some { oldStation := source, expiry := until_ } →
        (x = none → exec (.contextReply dt) s = .next (ended u)) ∧
        ∀ y, x = some y →
          exec (.contextReply dt) s =
            .next
              (ended
                (y.subscriptions.foldl
                  (fun (v : State) i =>
                    if (v.findEntry c).any (fun e => e.subscriptions.contains i) then v else v.applySubscription c i)
                  (u.updateEntry c (fun e =>
                    { e with
                      bindings := mergeBindings e.bindings y.bindings,
                      record := match e.record with
                        | none => y.record
                        | some r => some r }))))) ∧
    ∀ (l : List Binding) (b : Binding) (more : List Binding),
      mergeBindings l [] = l ∧
        (l.length < 4 → b.serial ∉ l.map (·.serial) → mergeBindings l (b :: more) = mergeBindings (l ++ [b]) more) ∧
        (b.serial ∈ l.map (·.serial) → mergeBindings l (b :: more) = mergeBindings l more) ∧
        (4 ≤ l.length → mergeBindings l more = l)

/-- Timers that end with nothing sent (R5, R56, R57): SIGHTING_EXPIRY removes a sighting 10 s after its last update, BACKOFF_EXPIRY makes
it SEEN, HOLD_DOWN_EXPIRY and CONTEXT_WAIT_EXPIRY make the field absent. (An expiry taken late acts when it comes, log 4.) -/
def Obligations.QuietTimersEndTheirField : Prop :=
  ∀ (s : State) (dt : Time) (c : ClientId),
    (∀ g, s.findSighting c = some g → g.removal ≤ s.now + dt →
      exec (.sightingExpiry dt c) s =
        .next ((s.elapse dt).setAu { s.au with sightings := s.au.sightings.filter (fun x => x.id != c) })) ∧
      (∀ g until_, s.findSighting c = some g → g.status = .backoff until_ → until_ ≤ s.now + dt →
        ∃ t, exec (.backoffExpiry dt c) s = .next t ∧ t = (s.elapse dt).setAu { s.au with sightings := t.au.sightings } ∧
          t.findSighting c = some { g with status := .seen } ∧ ∀ d, d ≠ c → t.findSighting d = s.findSighting d) ∧
      (∀ e until_, s.findEntry c = some e → e.holdDown = some until_ → until_ ≤ s.now + dt →
        exec (.holdDownExpiry dt c) s = .next ((s.elapse dt).updateEntry c (fun e => { e with holdDown := none }))) ∧
      ∀ e w, s.findEntry c = some e → e.contextWait = some w → w.expiry ≤ s.now + dt →
        exec (.contextWaitExpiry dt c) s = .next ((s.elapse dt).updateEntry c (fun e => { e with contextWait := none }))

/-- BLOCK_RESET_ROAM, BLOCK_RESET_COUNTERS and HARVEST_REQUEST from station 30 (R21, R187, R191): the first empties the sightings,
removes RESERVED and ROAM_IN entries and makes the rest ASSOCIATED without hold-down or context wait; the second zeroes counters and
snapshot; the third arms the HARVEST buffer. Nothing else changes. -/
def Obligations.RoamAndCounterResets : Prop :=
  ∀ (s : State) (dt : Time), s.sl.nodeState ≠ .starting →
    (s.carries .associationUnit 30 (.blockReset .roam) →
      exec (.blockResetRoam dt) s =
        .next
          (((s.elapse dt).released .associationUnit).setAu
            { clients := (s.au.clients.filter (fun e => e.state.counted)).map (fun e =>
                { e with state := .associated, holdDown := none, contextWait := none }),
              sightings := [] })) ∧
      (s.carries .counterBank 30 (.blockReset .counters) →
        exec (.blockResetCounters dt) s =
          .next
            (((s.elapse dt).released .counterBank).setCb
              { counters := Vector.replicate 24 { value := 0, saturated := false },
                snapshot := Vector.replicate 24 { value := 0, saturated := false } })) ∧
      (s.carries .counterBank 30 .harvestRequest →
        exec (.harvestRequest dt) s =
          .next
            (((s.elapse dt).released .counterBank).setAnu
              { s.anu with harvest := { s.anu.harvest with armed := true } }))

/-! ## Replay streams and the replay cycle (chapters 6 and 7) -/

/-- STREAM_ANNOUNCE_LIVE (R103 to R105): from another source than station 30, or for stream 0, it is discarded. A held stream takes the
frame's tier and fill mode, is announced now and is no longer ended; a new one takes a free place, or that of the DORMANT stream announced
longest ago (the lowest ID of several), as a DORMANT stream; a full catalogue without a DORMANT stream takes it not (log 28). (That 'the
time of the frame' is the time at which the Replay Unit takes it is the model's choice, log 29; the catalogue is kept in rising order of
stream ID, log 21.) -/
def Obligations.LiveStreamIsInsertedOrUpdated : Prop :=
  (∀ (s : State) (dt : Time) (i : StreamId) (tier : Tier) (fill : Fill), s.sl.nodeState ≠ .starting → i ≠ 0 →
    s.carries .replayUnit 30 (.streamAnnounce i tier fill .live) →
    let u := (s.elapse dt).released .replayUnit
    let new : StreamEntry :=
      { id := i, tier := tier, fill := fill, activity := .dormant, ended := false, subscribers := 0, airGroup := none,
        next := none, underrunRun := 0, lastAnnounced := s.now + dt, joinMarker := false, aired := none, unaired := [] }
    let put (l : List StreamEntry) : List StreamEntry := putBy (fun x => x.id) new l
    (s.findStream i ≠ none →
      exec (.streamAnnounceLive dt) s =
        .next
          (u.updateStream i (fun x =>
            { x with tier := tier, fill := fill, lastAnnounced := s.now + dt, ended := false }))) ∧
      (s.findStream i = none → s.ru.catalogue.length < 16 →
        exec (.streamAnnounceLive dt) s = .next (u.setRu { s.ru with catalogue := put s.ru.catalogue })) ∧
      (s.findStream i = none → 16 ≤ s.ru.catalogue.length → (∀ x ∈ s.ru.catalogue, x.activity ≠ .dormant) →
        exec (.streamAnnounceLive dt) s = .next u) ∧
      ∀ old ∈ s.ru.catalogue, s.findStream i = none → 16 ≤ s.ru.catalogue.length → old.activity = .dormant →
        (∀ x ∈ s.ru.catalogue, x.id < 256) →
        (∀ x ∈ s.ru.catalogue, x.activity = .dormant →
          old.lastAnnounced < x.lastAnnounced ∨ (old.lastAnnounced = x.lastAnnounced ∧ old.id ≤ x.id)) →
        exec (.streamAnnounceLive dt) s =
          .next
            (u.setRu
              { s.ru with
                catalogue := put (s.ru.catalogue.filter (fun x => x.id != old.id)),
                cycle := { s.ru.cycle with
                  active := s.ru.cycle.active.map (fun r => if r = some old.id then none else r) } })) ∧
    ∀ (s : State) (dt : Time) (source : Station) (i : StreamId) (tier : Tier) (fill : Fill),
      s.carries .replayUnit source (.streamAnnounce i tier fill .live) → source ≠ 30 ∨ i = 0 →
      exec (.streamAnnounceLive dt) s = .next ((s.elapse dt).released .replayUnit)

/-- STREAM_ANNOUNCE_ENDED (R103, R106): without effect from another source than station 30, for stream 0, and on a stream that is not held
or has ended; else every ASSOCIATED or ROAM_OUT entry that holds the stream loses it, is told ENDED and lowers the count, in an order that
the manual leaves open (log 9), and then an ACTIVE stream is LEAVING and ended, and any other is deleted, its places in the active list left
empty. -/
def Obligations.EndedStreamLosesItsSubscribers : Prop :=
  (∀ (s : State) (dt : Time) (i : StreamId) (tier : Tier) (fill : Fill), s.sl.nodeState ≠ .starting → i ≠ 0 →
    s.carries .replayUnit 30 (.streamAnnounce i tier fill .ended) →
    let u := (s.elapse dt).released .replayUnit
    ((∀ e, s.findStream i = some e → e.ended = true) → exec (.streamAnnounceEnded dt) s = .next u) ∧
      ∀ e, s.findStream i = some e → e.ended = false →
        ∃ order : List ClientId,
          order.Perm ((s.au.clients.filter (fun x => x.state.counted && x.subscriptions.contains i)).map (·.id)) ∧
          let v := order.foldl
            (fun (v : State) c =>
              ((v.updateEntry c (fun x => { x with subscriptions := x.subscriptions.filter (fun j => j != i) })).handReply
                (.subscribeReply c i .ended none)).updateStream i StreamEntry.lowered) u.drawn
          (e.activity = .active →
            exec (.streamAnnounceEnded dt) s =
              .next (v.updateStream i (fun x => { x with activity := .leaving, ended := true, joinMarker := false }))) ∧
          (e.activity ≠ .active →
            exec (.streamAnnounceEnded dt) s =
              .next
                (v.setRu
                  { v.ru with
                    catalogue := v.ru.catalogue.filter (fun x => x.id != i),
                    cycle := { v.ru.cycle with
                      active := v.ru.cycle.active.map (fun r => if r = some i then none else r) } }))) ∧
    ∀ (s : State) (dt : Time) (source : Station) (i : StreamId) (tier : Tier) (fill : Fill),
      s.carries .replayUnit source (.streamAnnounce i tier fill .ended) → source ≠ 30 ∨ i = 0 →
      exec (.streamAnnounceEnded dt) s = .next ((s.elapse dt).released .replayUnit)

/-- SEGMENT (R115 to R117): from station 30, of 1 to 1,408 bytes that agree with its length, for a JOINING or ACTIVE stream, not LATE, not a
duplicate and with fewer than 7 unaired, it is cached in its wrap-aware place and sets next when it was unset; any other is discarded and
counts SEGMENTS_DISCARDED. -/
def Obligations.SegmentIsCachedOrDiscarded : Prop :=
  ∀ (s : State) (dt : Time) (source : Station) (i : StreamId) (q : Sequence) (len : Nat) (data : List Byte),
    s.sl.nodeState ≠ .starting → s.carries .replayUnit source (.segment i q len data) →
    let u := (s.elapse dt).released .replayUnit
    let late (next : Sequence) : Prop :=
      1 ≤ (next.toNat + 65536 - q.toNat) % 65536 ∧ (next.toNat + 65536 - q.toNat) % 65536 ≤ 32768
    let takes : Prop :=
      source = 30 ∧ 1 ≤ len ∧ len ≤ 1408 ∧ data.length = len ∧
        ∃ e, s.findStream i = some e ∧ (e.activity = .joining ∨ e.activity = .active) ∧
          (∀ next, e.next = some next → ¬ late next) ∧ (∀ x ∈ e.unaired, x.seq ≠ q) ∧ e.unaired.length < 7
    (takes →
      exec (.segment dt) s =
        .next
          (u.updateStream i (fun x =>
            { x with
              next := some (x.next.getD q),
              unaired := placeBy (fun y => ahead (x.next.getD q) y.seq) { seq := q, data := data } x.unaired }))) ∧
      (¬ takes → exec (.segment dt) s = .next (u.count .segmentsDiscarded))

/-- SLOT_START, when slot k is due (R124 to R130): the slot of a deleted or not ACTIVE stream is idle; an ACTIVE one airs the segment due
when it is cached and the downlink queue has a place; otherwise it underruns: UNDERRUNS counts, a REPEAT stream airs its aired segment
again where it can, and the run rises, with a resync at 2. (startSlot, which the statements of a cycle start name, is this effect. A slot
start taken late acts when it comes, log 4.) -/
def Obligations.SlotAirsOrUnderruns : Prop :=
  ∀ (s : State) (dt : Time) (k : Nat), s.ru.cycle.running = true →
    (s.ru.cycle.slot = none ∧ k = 0 ∨ ∃ j, s.ru.cycle.slot = some j ∧ k = j + 1) → k < s.par.slots →
    s.ru.cycle.startedAt + 10000 * (k * s.par.slotMs) ≤ s.now + dt →
    let place := s.ru.cycle.active[(s.ru.cycle.offset + k) % s.ru.cycle.active.length]?
    let u := (s.elapse dt).setRu { s.ru with cycle := { s.ru.cycle with slot := some k } }
    exec (.slotStart dt) s = .next ((s.elapse dt).startSlot k) ∧
    ((∀ i, place = some (some i) → ∀ e, s.findStream i = some e → e.activity ≠ .active) →
      exec (.slotStart dt) s = .next u) ∧
      ∀ i e, place = some (some i) → s.findStream i = some e → e.activity = .active →
        let units (x : Segment) : Nat := (x.data.length + 175) / 176
        let air (x : Segment) (join rep : Bool) (v : State) : State :=
          v.enqueueDownlink (.airSlot (e.airGroup.getD 0) i x.seq (units x) join rep x.data)
        let carried (x : Segment) (v : State) : State :=
          v.setRu { v.ru with cycle := { v.ru.cycle with units := v.ru.cycle.units + units x } }
        (∀ q x, e.next = some q → e.unaired.find? (fun y => y.seq == q) = some x → s.rp.downlink.length < 16 →
          exec (.slotStart dt) s =
            .next
              (carried x
                (((air x e.joinMarker false u).updateStream i (fun y =>
                  { y with
                    joinMarker := false, aired := some x, unaired := y.unaired.filter (fun z => z.seq != q),
                    next := some (q + 1), underrunRun := 0 })).count .segmentsAired))) ∧
        ((∀ q, e.next = some q → ∀ x ∈ e.unaired, x.seq ≠ q) ∨ 16 ≤ s.rp.downlink.length →
          let v := u.count .underruns
          let filled :=
            match e.fill, e.aired with
            | .repeat, some x => if s.rp.downlink.length < 16 then carried x (air x false true v) else v
            | _, _ => v
          exec (.slotStart dt) s =
            .next
              (filled.updateStream i (fun y =>
                if 1 ≤ y.underrunRun ∧ y.unaired ≠ [] then
                  { y with next := y.unaired.head?.map (·.seq), underrunRun := 0 }
                else { y with underrunRun := min 2 (y.underrunRun + 1) })))

/-- CYCLE_END, when it is due after slot N − 1 (R110, R114, R122, R123, R132 to R134): LEAVING streams are cleared or deleted; the want
list is the JOINING and ACTIVE streams by air group, and arms STREAM_WANT when it differs from the list held; with none left the cycle
stops with U = 0; else U is that of the cycle ended, every JOINING stream is ACTIVE with its join-marker set, the active list is the want
list, the offset moves on by one, and slot 0 starts. Every entry is rescored with the U that stands. A cleared stream is DORMANT with its
group and segments freed, next unset, run 0 and join-marker clear; the rest of it stays. (A cycle end taken late acts when it comes, and
the next cycle starts then, log 4.) -/
def Obligations.CycleEndClosesAndRestarts : Prop :=
  (∀ (s : State) (dt : Time) (k : Nat), s.ru.cycle.running = true → s.ru.cycle.slot = some k → k + 1 = s.par.slots →
    s.ru.cycle.startedAt + 10000 * (s.par.slots * s.par.slotMs) ≤ s.now + dt →
    let wanted (e : StreamEntry) : Bool := e.activity == .joining || e.activity == .active
    let left := s.ru.catalogue.filterMap (fun e =>
      if e.activity = .leaving then (if e.ended then none else some e.cleared) else some e)
    let rescored (occupancy : Nat) : Association :=
      { s.au with
        clients := s.au.clients.map (fun e =>
          { e with score := servingScore e.signal occupancy s.au.clients.length (s.home e.id) }) }
    ∃ w : List StreamEntry, w.Perm (s.ru.catalogue.filter wanted) ∧
      w.Pairwise (fun a b => a.airGroup.getD 0 ≤ b.airGroup.getD 0) ∧
      let ids := w.map (·.id)
      let anu := if ids = s.anu.wantList then s.anu
        else { s.anu with wantList := ids, streamWant := { s.anu.streamWant with armed := true } }
      (w = [] →
        exec (.cycleEnd dt) s =
          .next
            ((((s.elapse dt).setRu
              { catalogue := left, occupancy := 0,
                cycle := { s.ru.cycle with running := false, active := [], slot := none, units := 0 } }).setAu
              (rescored 0)).setAnu anu)) ∧
      (w ≠ [] →
        let occupancy := (s.ru.cycle.units * 100 + 4 * s.par.slots) / (8 * s.par.slots)
        exec (.cycleEnd dt) s =
          .next
            (((((s.elapse dt).setRu
              { catalogue := left.map (fun e =>
                  if e.activity = .joining then { e with activity := .active, joinMarker := true } else e),
                occupancy := occupancy,
                cycle :=
                  { running := true, offset := (s.ru.cycle.offset + 1) % w.length, active := ids.map some, slot := none,
                    units := 0, startedAt := s.now + dt } }).setAu (rescored occupancy)).setAnu anu).startSlot 0))) ∧
    ∀ e : StreamEntry,
      e.cleared =
        { id := e.id, tier := e.tier, fill := e.fill, activity := .dormant, ended := e.ended,
          subscribers := e.subscribers, airGroup := none, next := none, underrunRun := 0,
          lastAnnounced := e.lastAnnounced, joinMarker := false, aired := none, unaired := [] }

/-- BLOCK_RESET_REPLAY from station 30 (R119, R122, R135): every segment is freed, the cycle is STOPPED at offset 0 with U = 0 handed over,
LEAVING streams are cleared or deleted, counted streams are JOINING with their groups kept, and where there is one the cycle starts anew.
Nothing is sent, and the STREAM_WANT buffer stays. (Here where the counted streams are the JOINING and ACTIVE ones, R113.) A cycle that
starts from STOPPED (R122, R123) makes every JOINING stream ACTIVE with its join-marker set, has the ACTIVE streams by air group as its
active list, offset 0, units 0 and this event as its start, leaves U as it is, and starts slot 0. -/
def Obligations.ReplayResetRestartsTheCycle : Prop :=
  (∀ (s : State) (dt : Time), s.sl.nodeState ≠ .starting → s.carries .replayUnit 30 (.blockReset .replay) →
    (∀ e ∈ s.ru.catalogue, (e.activity = .joining ∨ e.activity = .active) ↔ e.subscribers ≠ 0) →
    let u := (s.elapse dt).released .replayUnit
    let kept := s.ru.catalogue.filterMap (fun e =>
      if e.activity = .leaving then (if e.ended then none else some e.cleared)
      else if e.subscribers = 0 then some { e with aired := none, unaired := [] }
      else
        some
          { e with
            activity := .joining, next := none, underrunRun := 0, joinMarker := false, aired := none, unaired := [] })
    let stopped :=
      (u.setRu
        { catalogue := kept, occupancy := 0,
          cycle := { s.ru.cycle with running := false, offset := 0, active := [], slot := none, units := 0 } }).setAu
        { s.au with
          clients := s.au.clients.map (fun e =>
            { e with score := servingScore e.signal 0 s.au.clients.length (s.home e.id) }) }
    ((∀ e ∈ s.ru.catalogue, e.subscribers = 0) → exec (.blockResetReplay dt) s = .next stopped) ∧
      ((∃ e ∈ s.ru.catalogue, e.subscribers ≠ 0) →
        exec (.blockResetReplay dt) s = .next stopped.startCycleFromStopped)) ∧
    ∀ s : State,
      let started := s.ru.catalogue.map (fun e =>
        if e.activity = .joining then { e with activity := .active, joinMarker := true } else e)
      ∃ w : List StreamEntry, w.Perm (started.filter (fun e => e.activity == .active)) ∧
        w.Pairwise (fun a b => a.airGroup.getD 0 ≤ b.airGroup.getD 0) ∧
        s.startCycleFromStopped =
          (s.setRu
            { s.ru with
              catalogue := started,
              cycle :=
                { running := true, offset := 0, active := w.map (fun e => some e.id), slot := none, units := 0,
                  startedAt := s.now } }).startSlot 0

/-! ## Peers (chapter 8) -/

/-- PRESENCE and LOAD (R139, R141 to R143): a PRESENCE whose source and class agree makes or renews its source's entry, with the block it
carries when that is a NODE's, valid and not defaulted, and the first overlap with the own block sets OVERLAP and arms a notice; a LOAD in
range is kept in its source's entry. (A source above 31 names no station, log 10; the table is kept in rising order of station, log 21.) -/
def Obligations.PeersFollowPresenceAndLoad : Prop :=
  ∀ (s : State) (dt : Time), s.sl.nodeState ≠ .starting →
    let u := (s.elapse dt).released .announcementUnit
    (∀ (f : RxFrame) (cls : PeerClass) (block : Option SeatBlock) (defaulted admitting : Bool),
      s.oldestFor .announcementUnit = some f → f.kind = .presence →
      f.message = some (.presence cls block defaulted admitting) →
      let agrees : Prop := (cls = .node ∧ 1 ≤ f.source ∧ f.source ≤ 29) ∨ (cls = .gateway ∧ f.source = 30)
      let written := if cls = .node ∧ defaulted = false then
        block.filter (fun b => decide (1 ≤ b.first ∧ b.first ≤ b.last ∧ b.last ≤ 999)) else none
      let p : PeerEntry :=
        match s.anu.peers.find? (fun x => x.station == f.source) with
        | none =>
          { station := f.source, cls := cls, block := written, load := none, status := .live, lastFrame := f.storedAt,
            overlap := false }
        | some old => { old with cls := cls, block := written }
      let put (x : PeerEntry) : State := u.setAnu { s.anu with peers := putBy (fun y => y.station) x s.anu.peers }
      let overlaps : Prop :=
        s.sl.defaulted = false ∧ ∃ own b, s.par.block = some own ∧ written = some b ∧ b.first ≤ own.last ∧ own.first ≤ b.last
      (¬ agrees → exec (.presence dt) s = .next u) ∧
        (agrees → ¬ (overlaps ∧ p.overlap = false) → exec (.presence dt) s = .next (put p)) ∧
        (agrees → overlaps → p.overlap = false →
          exec (.presence dt) s = .next ((put { p with overlap := true }).armNotice .seatOverlap f.source))) ∧
      ∀ (source : Station) (v e l : Nat), s.carries .announcementUnit source (.load v e l) →
        let ok : Prop := v ≤ 100 ∧ e ≤ 48 ∧ 1 ≤ l ∧ l ≤ 48
        (ok →
          exec (.load dt) s =
            .next
              (u.setAnu
                { s.anu with
                  peers := s.anu.peers.map (fun x =>
                    if x.station == source then { x with load := some { occupancy := v, entries := e, limit := l } }
                    else x) })) ∧
          (¬ ok → exec (.load dt) s = .next u)

/-! ## The row bus (chapter 9) -/

/-- FRAME_RECEIVED while the node is not sending (R140, R164 to R169). The line is quiet from now. While STARTING, and after a collision
until this quiet, nothing is taken. Otherwise a runt or a bad frame counts RX_BAD; a frame from the own address counts RX_BAD and, once
for each reset, arms ADDRESS_CLASH; a frame to another destination leaves no trace; one to 0 or the own address is dropped at a full queue
and counts RX_OVERRUN, or is counted by length, refreshes its source's peer, and waits for its block if it has one (one that no block
consumes is released at once, log 12). (That the node state at a frame's end decides, for a frame that began while STARTING too, is the
model's choice, log 31, and so is that this command is the quiet after a collision, log 32.) -/
def Obligations.ReceivedFrameIsJudgedAndStored : Prop :=
  ∀ (s : State) (dt : Time) (bytes : List Byte), s.rbc.tx.isSending = false →
    let q := (s.elapse dt).setRbc { s.rbc with quietSince := some (s.now + dt), rxMuted := false }
    let len := fieldAt bytes 3 2
    let destination := fieldAt bytes 0 1
    let source := fieldAt bytes 1 1
    let passes (k : FrameKind) : Prop :=
      5 ≤ bytes.length ∧ bytes.drop (5 + len) = crc32Bytes (bytes.take (5 + len)) ∧ len ≤ 1480 ∧ bytes.length = 9 + len ∧
        enumAt FrameKind.table bytes 2 = some k ∧ k.payloadLengthOk len = true
    (s.rbc.rxMuted = true ∨ s.sl.nodeState = .starting → exec (.frameReceived dt bytes) s = .next q) ∧
      (s.rbc.rxMuted = false → s.sl.nodeState ≠ .starting →
        ((∀ k, ¬ passes k) → exec (.frameReceived dt bytes) s = .next (q.count .rxBad)) ∧
        ∀ k, passes k →
          (s.sl.ownAddress = some source →
            exec (.frameReceived dt bytes) s =
              .next
                (if s.rbc.clashNoted then q.count .rxBad
                else ((q.count .rxBad).setRbc { q.rbc with clashNoted := true }).armNotice .addressClash source)) ∧
          (s.sl.ownAddress ≠ some source →
            (destination ≠ 0 → s.sl.ownAddress ≠ some destination → exec (.frameReceived dt bytes) s = .next q) ∧
            (destination = 0 ∨ s.sl.ownAddress = some destination →
              (8 ≤ s.rbc.rxQueue.length → exec (.frameReceived dt bytes) s = .next (q.count .rxOverrun)) ∧
              (s.rbc.rxQueue.length < 8 →
                let c := q.count (if bytes.length ≤ 63 then .rx0 else if bytes.length ≤ 255 then .rx1
                  else if bytes.length ≤ 1023 then .rx2 else .rx3)
                let r := c.setAnu
                  { c.anu with
                    peers := s.anu.peers.map (fun p =>
                      if p.station == source then { p with status := .live, lastFrame := s.now + dt } else p) }
                let f : RxFrame :=
                  { destination := destination, source := source, kind := k, payload := slice bytes 5 len,
                    storedAt := s.now + dt }
                exec (.frameReceived dt bytes) s =
                  .next
                    (if consumer source k f.payload = none then r
                    else r.setRbc { q.rbc with rxQueue := s.rbc.rxQueue ++ [f] })))))

/-- LINE_BUSY and DEFERRAL_COMPLETE (R114, R148, R151, R152, R156, R161, R162, R188): a busy line abandons a running deferral and changes
nothing else; once the line has been quiet for the class gap, the position offset and 8 µs for each collision since the later of the frame
entering DEFER and the line going quiet, the frame is on the line with the content that then stands. A DEFERRAL_COMPLETE that comes before
that, which cannot happen on the hardware, only lets its time pass (the model's choice, log 3). -/
def Obligations.DeferralRunsInFull : Prop :=
  ∀ (s : State) (dt : Time),
    exec (.lineBusy dt) s = .next ((s.elapse dt).setRbc { s.rbc with quietSince := none }) ∧
      ∀ f n since quiet, s.rbc.tx = .defer f n since → s.rbc.quietSince = some quiet →
        let length := 10 * ((if f.urgent then 4 else 12) + s.own % 8 + 8 * n)
        let content : Message :=
          match f.body with
          | .message m => m
          | .announcement .presence =>
            .presence .node s.par.block s.sl.defaulted
              (decide (s.sl.nodeState = .running ∧ s.au.clients.length < s.par.limit))
          | .announcement .load => .load s.ru.occupancy s.au.clients.length s.par.limit
          | .announcement .streamWant => .streamWant s.anu.wantList
          | .announcement .harvest => .harvest s.cb.snapshot
        (max since quiet + length ≤ s.now + dt →
          exec (.deferralComplete dt) s =
            .next
              ((s.elapse dt).setRbc
                { s.rbc with tx := .sending f n (frameBytes f.destination s.own content), quietSince := none })) ∧
          (s.now + dt < max since quiet + length → exec (.deferralComplete dt) s = .next (s.elapse dt))

/-- TX_COMPLETE (R159, R160, R162, R189): an announcement's queued flag is cleared, and for HARVEST the snapshot is subtracted from the
counters, their flags cleared and the snapshot zeroed; the frame is counted by its length on the line; the line is quiet from now; and the
first waiting frame, URGENT first, is in hand with attempt count 0. (The subtraction comes before the count, log 13.) -/
def Obligations.CompletedFrameIsCountedAndReported : Prop :=
  ∀ (s : State) (dt : Time) (f : TxFrame) (n : Nat) (wire : List Byte), s.rbc.tx = .sending f n wire →
    let u := s.elapse dt
    let reported : State :=
      match f.body with
      | .message _ => u
      | .announcement .presence => u.setAnu { s.anu with presence := { s.anu.presence with queued := false } }
      | .announcement .load => u.setAnu { s.anu with load := { s.anu.load with queued := false } }
      | .announcement .streamWant => u.setAnu { s.anu with streamWant := { s.anu.streamWant with queued := false } }
      | .announcement .harvest =>
        (u.setAnu { s.anu with harvest := { s.anu.harvest with queued := false } }).setCb
          { counters := Vector.zipWith (fun c v => { value := c.value - v.value, saturated := false }) s.cb.counters
              s.cb.snapshot,
            snapshot := Vector.replicate 24 { value := 0, saturated := false } }
    let counted := reported.count (if wire.length ≤ 63 then .tx0 else if wire.length ≤ 255 then .tx1
      else if wire.length ≤ 1023 then .tx2 else .tx3)
    let quiet : RowBus := { s.rbc with quietSince := some (s.now + dt) }
    (∀ g rest, s.rbc.txUrgent = g :: rest →
      exec (.txComplete dt) s = .next (counted.setRbc { quiet with tx := .defer g 0 (s.now + dt), txUrgent := rest })) ∧
      (∀ g rest, s.rbc.txUrgent = [] → s.rbc.txNormal = g :: rest →
        exec (.txComplete dt) s =
          .next (counted.setRbc { quiet with tx := .defer g 0 (s.now + dt), txNormal := rest })) ∧
      (s.rbc.txUrgent = [] → s.rbc.txNormal = [] →
        exec (.txComplete dt) s = .next (counted.setRbc { quiet with tx := .idle }))

/-- TX_COLLISION (R71, R150, R159, R163, R164, R190): COLLISIONS counts and the receiver is deaf until the line is quiet; up to the fifth
collision the frame is back in DEFER with one attempt more; at its sixth it is lost: TX_LOST counts, an announcement's queued flag is
cleared and a HARVEST's snapshot zeroed, a TOKEN_FORWARD's pending entry that names its destination is answered TRY_AGAIN, and the next
frame is taken. (That the line stays busy until the next FRAME_RECEIVED is the model's choice, log 32.) -/
def Obligations.CollisionDefersOrLosesTheFrame : Prop :=
  ∀ (s : State) (dt : Time) (f : TxFrame) (n : Nat) (wire : List Byte), s.rbc.tx = .sending f n wire →
    let collided := ((s.elapse dt).count .collisions).setRbc { s.rbc with rxMuted := true }
    let lost := collided.count .txLost
    (n < 5 →
      exec (.txCollision dt) s =
        .next
          (((s.elapse dt).count .collisions).setRbc
            { s.rbc with rxMuted := true, tx := .defer f (n + 1) (s.now + dt) })) ∧
      (5 ≤ n →
        (∀ m, f.body = .message m → (∀ c t, m ≠ .tokenForward c t) → exec (.txCollision dt) s = .next lost.nextFrame) ∧
        (∀ k, f.body = .announcement k → k ≠ .harvest →
          exec (.txCollision dt) s =
            .next (lost.setAnu (lost.anu.setBuffer k { lost.anu.buffer k with queued := false })).nextFrame) ∧
        (f.body = .announcement .harvest →
          exec (.txCollision dt) s =
            .next
              ((lost.setAnu { lost.anu with harvest := { lost.anu.harvest with queued := false } }).setCb
                { lost.cb with snapshot := Vector.replicate 24 { value := 0, saturated := false } }).nextFrame) ∧
        ∀ c t, f.body = .message (.tokenForward c t) →
          (∀ p, s.findPending c t.serial = some p → p.destination = f.destination →
            exec (.txCollision dt) s =
              .next
                ((lost.handReply (.tokenReply c .tryAgain p.token.seat)).erasePending c t.serial).nextFrame) ∧
          ((∀ p, s.findPending c t.serial = some p → p.destination ≠ f.destination) →
            exec (.txCollision dt) s = .next lost.nextFrame))

/-- The hand-over of a frame (R155, R157 to R161). The six roam kinds are URGENT, every other kind and every announcement NORMAL. A SILENT
node discards it. One that transmits, with fewer than 16 frames queued, accepts it: into hand when the transmitter is IDLE; an URGENT
frame takes the hand from a NORMAL one in DEFER without collisions, which waits first of its class; else it waits last of its class; and
an announcement's queued flag is set. With 16 queued an URGENT frame takes the place of the newest waiting NORMAL one, which counts
TX_LOST, and any other is refused and counts TX_LOST. What is evicted or refused is reported at once (R71, R150, R159, R190): an evicted
announcement's queued flag is cleared, with the snapshot zeroed for HARVEST, and a TOKEN_FORWARD, evicted or refused, has its pending
entry to the same destination answered TRY_AGAIN and removed. (The eviction is reported before the new frame is accepted, log 24.) -/
def Obligations.HandOverAcceptsEvictsOrRefuses : Prop :=
  (∀ (s : State) (d : Station) (m : Message), s.sl.nodeState = .listening ∨ s.sl.nodeState = .running →
    let f := frameOf d m
    (s.txCount < 16 →
      s.handOver f = (s.acceptFrame f, true) ∧
      (s.rbc.tx = .idle → s.handOver f = (s.setRbc { s.rbc with tx := .defer f 0 s.now }, true)) ∧
      (∀ g since, s.rbc.tx = .defer g 0 since → f.urgent = true → g.urgent = false →
        let taken := { s.rbc with tx := .defer f 0 since, txNormal := g :: s.rbc.txNormal }
        ((∀ quiet, s.rbc.quietSince = some quiet → s.now < max since quiet + 10 * (4 + s.own % 8)) →
          s.handOver f = (s.setRbc taken, true)) ∧
        (∀ quiet, s.rbc.quietSince = some quiet → max since quiet + 10 * (4 + s.own % 8) ≤ s.now →
          s.handOver f =
            (s.setRbc { taken with tx := .sending f 0 (frameBytes d s.own m), quietSince := none }, true))) ∧
      (∀ g, s.rbc.tx.hand = some g → (f.urgent = false ∨ g.urgent = true ∨ s.rbc.tx.attempts ≠ 0 ∨
          s.rbc.tx.isSending = true) →
        s.handOver f =
          (s.setRbc
            (if f.urgent then { s.rbc with txUrgent := s.rbc.txUrgent ++ [f] }
            else { s.rbc with txNormal := s.rbc.txNormal ++ [f] }), true))) ∧
      (16 ≤ s.txCount → (∀ c t, m ≠ .tokenForward c t) →
        (f.urgent = false ∨ s.rbc.txNormal = [] → s.handOver f = (s.count .txLost, false)) ∧
        (∀ g b front, f.urgent = true → s.rbc.txNormal = front ++ [g] → g.body = .message b →
          (∀ c t, b ≠ .tokenForward c t) →
          s.handOver f = (((s.setRbc { s.rbc with txNormal := front }).count .txLost).acceptFrame f, true)))) ∧
    (∀ s : State, s.sl.nodeState = .listening ∨ s.sl.nodeState = .running →
      let answered (v : State) (p : PendingToken) : State :=
        (v.handReply (.tokenReply p.client .tryAgain p.token.seat)).erasePending p.client p.token.serial
      (16 ≤ s.txCount → ∀ d c t,
        (∀ p, s.findPending c t.serial = some p → p.destination = d →
          s.handOver (frameOf d (.tokenForward c t)) = (answered (s.count .txLost) p, false)) ∧
        ((∀ p, s.findPending c t.serial = some p → p.destination ≠ d) →
          s.handOver (frameOf d (.tokenForward c t)) = (s.count .txLost, false))) ∧
      (16 ≤ s.txCount → ∀ (f g : TxFrame) (front : List TxFrame), f.urgent = true → s.rbc.txNormal = front ++ [g] →
        let v := (s.setRbc { s.rbc with txNormal := front }).count .txLost
        (∀ k, g.body = .announcement k →
          s.handOver f =
            ((let w := v.setAnu (v.anu.setBuffer k { v.anu.buffer k with queued := false })
              if k = .harvest then
                w.setCb { w.cb with snapshot := Vector.replicate 24 { value := 0, saturated := false } }
              else w).acceptFrame f, true)) ∧
        ∀ c t, g.body = .message (.tokenForward c t) →
          (∀ p, s.findPending c t.serial = some p → p.destination = g.destination →
            s.handOver f = ((answered v p).acceptFrame f, true)) ∧
          ((∀ p, s.findPending c t.serial = some p → p.destination ≠ g.destination) →
            s.handOver f = (v.acceptFrame f, true))) ∧
      (∀ (f : TxFrame) (k : AnnounceKind), f.body = .announcement k → s.txCount < 16 →
        let v := s.setAnu (s.anu.setBuffer k { s.anu.buffer k with queued := true })
        (s.rbc.tx = .idle → s.handOver f = (v.setRbc { s.rbc with tx := .defer f 0 s.now }, true)) ∧
          (s.rbc.tx ≠ .idle →
            s.handOver f = (v.setRbc { s.rbc with txNormal := s.rbc.txNormal ++ [f] }, true))) ∧
      ∀ (f : TxFrame) (k : AnnounceKind), f.body = .announcement k → 16 ≤ s.txCount →
        s.handOver f = (s.count .txLost, false)) ∧
    (∀ (s : State) (f : TxFrame), s.sl.nodeState = .silent → s.handOver f = (s, false)) ∧
    (∀ d m, (frameOf d m).urgent = true ↔
      m.kind ∈ [FrameKind.roamClaim, .roamGrant, .roamDeny, .roamReturn, .clientMoved, .contextReply]) ∧
    ∀ (f : TxFrame) (k : AnnounceKind), f.body = .announcement k → f.urgent = false

/-- A frame's bytes come back as what was sent (R155, R156, R165, R201, R202): a message whose fields fit, framed for any destination from
any source, passes every test of reception and carries the same destination, source, kind and message. -/
def Obligations.FrameBytesCarryTheMessage : Prop :=
  ∀ (destination source : Station) (m : Message), destination < 256 → source < 256 → m.fits →
    judgeFrame (frameBytes destination source m) = .good destination source m.kind m.payload ∧
      parseMessage m.kind m.payload = some m

/-! ## The radio link (chapter 10) -/

/-- RADIO_READY, RADIO_READY_WITHDRAWN and DOWNLINK_TRANSFER_COMPLETE (R175, R176, R178): ready starts the transfer of the oldest record
when none runs, and its withdrawal stops nothing; a completed record leaves the queue, the oldest held reply takes the place as the newest
record, and the next transfer starts when the radio unit is ready. The bytes in transfer are those of 13.5, by kind: the kind 1 to 6, then
its fields, codes numbered from 1 in their tables' order (R201), a redirect of 0 and an air group of 0xFF where there is none. -/
def Obligations.RadioLinkMovesTheOldestRecord : Prop :=
  (∀ (s : State) (dt : Time),
    let p := s.rp
    let next (ready : Bool) (queue : List Downlink) : Transfer :=
      match ready, queue with
      | true, r :: _ => .sending r.bytes
      | _, _ => .idle
    (p.transfer = .idle →
      exec (.radioReady dt) s = .next ((s.elapse dt).setRp { p with ready := true, transfer := next true p.downlink })) ∧
      (p.transfer ≠ .idle → exec (.radioReady dt) s = .next ((s.elapse dt).setRp { p with ready := true })) ∧
      exec (.radioReadyWithdrawn dt) s = .next ((s.elapse dt).setRp { p with ready := false }) ∧
      (p.transfer ≠ .idle →
        let queue := p.downlink.drop 1 ++ p.held.take 1
        exec (.downlinkTransferComplete dt) s =
          .next
            ((s.elapse dt).setRp { p with downlink := queue, held := p.held.drop 1, transfer := next p.ready queue }))) ∧
    let one (n : Nat) : Byte := BitVec.ofNat 8 n
    let two (n : Nat) : List Byte := [one (n / 256), one n]
    let six (c : ClientId) : List Byte :=
      [c.extractLsb' 40 8, c.extractLsb' 32 8, c.extractLsb' 24 8, c.extractLsb' 16 8, c.extractLsb' 8 8,
        c.extractLsb' 0 8]
    (∀ c code redirect,
      (Downlink.joinReply c code redirect).bytes =
        1 :: six c ++ [one (JoinCode.table.idxOf code + 1), one (redirect.getD 0)]) ∧
      (∀ c station, (Downlink.moveTo c station).bytes = 2 :: six c ++ [one station]) ∧
      (∀ c code seat,
        (Downlink.tokenReply c code seat).bytes = 3 :: six c ++ [one (TokenCode.table.idxOf code + 1)] ++ two seat) ∧
      (∀ c stream code group,
        (Downlink.subscribeReply c stream code group).bytes =
          4 :: six c ++ [one stream, one (SubscribeCode.table.idxOf code + 1), one (group.getD 255)]) ∧
      (∀ c, (Downlink.dropClient c).bytes = 5 :: six c) ∧
      ∀ group stream seq units join rep data,
        (Downlink.airSlot group stream seq units join rep data).bytes =
          [6, one group, one stream] ++ two seq.toNat ++ [one units, one (join.toNat + 2 * rep.toNat)] ++
            two data.length ++ data

/-- The hand-over of a reply (R177). -/
def Obligations.ReplyIsQueuedHeldOrLost : Prop :=
  ∀ (s : State) (r : Downlink),
    (s.rp.held = [] → s.rp.downlink.length < 16 →
      s.handReply r = (s.setRp { s.rp with downlink := s.rp.downlink ++ [r] }).startTransfer ∧
        (s.handReply r).rp.downlink = s.rp.downlink ++ [r] ∧ (s.handReply r).rp.held = []) ∧
      (s.rp.held = [] → 16 ≤ s.rp.downlink.length → s.handReply r = s.setRp { s.rp with held := [r] }) ∧
      (s.rp.held ≠ [] → s.rp.held.length < 8 → s.handReply r = s.setRp { s.rp with held := s.rp.held ++ [r] }) ∧
      (8 ≤ s.rp.held.length → s.handReply r = s.count .replyLost)

/-! ## Counters (chapter 11) -/

/-- An increment (R184, R186): a masked counter changes nothing; an unmasked one rises by 1 below 1,048,575 and at that value sets its
flag instead; no other counter changes; reaching 786,432 or more arms the HARVEST buffer; and increments give the same result in any
order. -/
def Obligations.IncrementRaisesOneCounter : Prop :=
  ∀ (s : State) (k : CounterId),
    (s.masked k = true → s.count k = s) ∧
      (s.masked k = false →
        let c := s.counter k
        let c' : Counter := if c.value < 1048575 then { c with value := c.value + 1 } else { c with saturated := true }
        (s.count k).counter k = c' ∧ (∀ j, j ≠ k → (s.count k).counter j = s.counter j) ∧
          (s.count k).cb.snapshot = s.cb.snapshot ∧
          (s.count k).anu =
            (if 786432 ≤ c'.value then { s.anu with harvest := { s.anu.harvest with armed := true } } else s.anu) ∧
          s.count k = (s.setCb (s.count k).cb).setAnu (s.count k).anu) ∧
      ∀ j, (s.count k).count j = (s.count j).count k

/-! ## Signals and scores (chapter 2) -/

/-- Smoothing against a steady reading (R24, R25): S moves by floor((4r − S) ÷ 4), which stays between its old value and 4r; from above it
comes all the way down to 4r, one by one over the last four; from 4 or more below it settles at 4r − 3; 1, 2 or 3 below it stays where it
is; and two signals that hear the same steady reading settle within 3 of each other. -/
def Obligations.SmoothingSettles : Prop :=
  ∀ (signal rssi : Int),
    let target := 4 * max (-100) (min (-20) rssi)
    let after (n : Nat) : Int := (fun x => smooth x rssi)^[n] signal
    smooth signal rssi = signal + Int.fdiv (target - signal) 4 ∧
      min signal target ≤ smooth signal rssi ∧ smooth signal rssi ≤ max signal target ∧
      (-400 ≤ signal → signal ≤ -80 → -400 ≤ smooth signal rssi ∧ smooth signal rssi ≤ -80) ∧
      (signal ≤ target → target - signal ≤ 3 → ∀ n, after n = signal) ∧
      (4 ≤ target - signal → target - signal ≤ 7 →
        3 ≤ target - smooth signal rssi ∧ target - smooth signal rssi ≤ 6) ∧
      (-4 ≤ target - signal → target - signal ≤ -1 → smooth signal rssi = signal - 1) ∧
      (target - signal ≤ -5 → smooth signal rssi ≤ signal - 2) ∧
      (∀ (other : Int) (n : Nat), |signal - target| ≤ n → |other - target| ≤ n →
        |after n - (fun x => smooth x rssi)^[n] other| ≤ 3) ∧
      (3 ≤ target - signal → ∀ n : Nat, target - signal - 3 ≤ n → after n = target - 3) ∧
      (target ≤ signal → ∀ n : Nat, signal - target ≤ n → after n = target)

/-- The serving score (R28, R31): Sig − P + H + 250, with 0 for a result below 0; H is 120 exactly when a seat in HELD, OCCUPIED or AWAY
binds the client; and the score lies within 0..1010, both ends reached. -/
def Obligations.ServingScoreIsTheSum : Prop :=
  ∀ (s : State) (e : ClientEntry),
    let sig := 2 * (e.signal + 400)
    let p : Int := 3 * s.ru.occupancy + 4 * max 0 ((s.au.clients.length : Int) - 32)
    let h : Int := if s.home e.id then 120 else 0
    (s.scoreOf e : Int) = max 0 (sig - p + h + 250) ∧
      (s.home e.id = true ↔ ∃ x ∈ s.sv.seats, ∃ st b, x.state = .bound st b ∧ b.client = e.id) ∧
      (-400 ≤ e.signal → e.signal ≤ -80 → s.ru.occupancy ≤ 100 → s.au.clients.length ≤ 48 →
        0 ≤ sig ∧ sig ≤ 640 ∧ 0 ≤ p ∧ p ≤ 364 ∧ -114 ≤ sig - p + h + 250 ∧ s.scoreOf e ≤ 1010) ∧
      (e.signal = -80 → s.ru.occupancy = 0 → s.au.clients.length ≤ 32 → s.home e.id = true → s.scoreOf e = 1010) ∧
      (e.signal = -400 → s.ru.occupancy = 100 → s.au.clients.length = 48 → s.home e.id = false → s.scoreOf e = 0)

/-! ## What every step keeps -/

/-- Every step keeps the radio link in order (R172, R175 to R179). -/
def Obligations.StepKeepsRadioOrdered : Prop := ∀ s t : State, s.rp.ordered → step s = .next t → t.rp.ordered

/-- Every step keeps the counters in order (R182, R184, R185, R188 to R191). -/
def Obligations.StepKeepsCountersOrdered : Prop := ∀ s t : State, s.countersOrdered → step s = .next t → t.countersOrdered

/-- Every step keeps the row bus in order (R147, R157 to R163, R168), and the peers and notices (R139, R141, R143, R153; the peer table is
kept in rising order of station, log 21). -/
def Obligations.StepKeepsBusOrdered : Prop :=
  (∀ s t : State, s.busOrdered → step s = .next t → t.busOrdered) ∧
    ∀ s t : State, s.peersOrdered → step s = .next t → t.peersOrdered

/-- Every step keeps the clients in order (R1 to R4, R24, R28), and from such states the roam exchanges too (R38). (Both lists are kept in
rising order of client ID, log 21.) -/
def Obligations.StepKeepsClientsOrdered : Prop :=
  (∀ s t : State, s.clientsOrdered → step s = .next t → t.clientsOrdered) ∧
    ∀ s t : State, s.clientsOrdered → s.roamOrdered → step s = .next t → t.roamOrdered

/-- Every step keeps the streams in order (R102, R107, R111, R113; the catalogue is kept in rising order of stream ID, log 21). -/
def Obligations.StepKeepsStreamsOrdered : Prop := ∀ s t : State, s.streamsOrdered → step s = .next t → t.streamsOrdered

/-- Every step keeps the segment cache in order (R115, R116; the catalogue is kept in rising order of stream ID, log 21), and from states
whose streams and cache are in order the replay cycle too (R121 to R124, R132, R134). -/
def Obligations.StepKeepsCacheOrdered : Prop :=
  (∀ s t : State, s.cacheOrdered → step s = .next t → t.cacheOrdered) ∧
    ∀ s t : State, s.streamsOrdered → s.cacheOrdered → s.cycleOrdered → step s = .next t → t.cycleOrdered

/-- Every step keeps the seats in order (R69, R73, R74, R86, R87). -/
def Obligations.StepKeepsSeatsOrdered : Prop := ∀ s t : State, s.seatsOrdered → step s = .next t → t.seatsOrdered
end

