-- ==== Sys2Proof/Laws/State.lean ====
section
/-! SUPPORT. One lemma per field per update of the state, true by rfl: no later proof unfolds a record update. -/

namespace Sys2Proof.Machine

/-! ## setSl -/

@[simp] theorem State.setSl_now (s : State) (x : StartUp) : (s.setSl x).now = s.now := rfl
@[simp] theorem State.setSl_pending (s : State) (x : StartUp) : (s.setSl x).pending = s.pending := rfl
@[simp] theorem State.setSl_freeCount (s : State) (x : StartUp) : (s.setSl x).freeCount = s.freeCount := rfl
@[simp] theorem State.setSl_sl (s : State) (x : StartUp) : (s.setSl x).sl = x := rfl
@[simp] theorem State.setSl_au (s : State) (x : StartUp) : (s.setSl x).au = s.au := rfl
@[simp] theorem State.setSl_sv (s : State) (x : StartUp) : (s.setSl x).sv = s.sv := rfl
@[simp] theorem State.setSl_ru (s : State) (x : StartUp) : (s.setSl x).ru = s.ru := rfl
@[simp] theorem State.setSl_anu (s : State) (x : StartUp) : (s.setSl x).anu = s.anu := rfl
@[simp] theorem State.setSl_cb (s : State) (x : StartUp) : (s.setSl x).cb = s.cb := rfl
@[simp] theorem State.setSl_rbc (s : State) (x : StartUp) : (s.setSl x).rbc = s.rbc := rfl
@[simp] theorem State.setSl_rp (s : State) (x : StartUp) : (s.setSl x).rp = s.rp := rfl
@[simp] theorem State.setSl_setSl (s : State) (x y : StartUp) : (s.setSl x).setSl y = s.setSl y := rfl
theorem State.setSl_self (s : State) : s.setSl s.sl = s := rfl

/-! ## setAu -/

@[simp] theorem State.setAu_now (s : State) (x : Association) : (s.setAu x).now = s.now := rfl
@[simp] theorem State.setAu_pending (s : State) (x : Association) : (s.setAu x).pending = s.pending := rfl
@[simp] theorem State.setAu_freeCount (s : State) (x : Association) : (s.setAu x).freeCount = s.freeCount := rfl
@[simp] theorem State.setAu_sl (s : State) (x : Association) : (s.setAu x).sl = s.sl := rfl
@[simp] theorem State.setAu_au (s : State) (x : Association) : (s.setAu x).au = x := rfl
@[simp] theorem State.setAu_sv (s : State) (x : Association) : (s.setAu x).sv = s.sv := rfl
@[simp] theorem State.setAu_ru (s : State) (x : Association) : (s.setAu x).ru = s.ru := rfl
@[simp] theorem State.setAu_anu (s : State) (x : Association) : (s.setAu x).anu = s.anu := rfl
@[simp] theorem State.setAu_cb (s : State) (x : Association) : (s.setAu x).cb = s.cb := rfl
@[simp] theorem State.setAu_rbc (s : State) (x : Association) : (s.setAu x).rbc = s.rbc := rfl
@[simp] theorem State.setAu_rp (s : State) (x : Association) : (s.setAu x).rp = s.rp := rfl
@[simp] theorem State.setAu_setAu (s : State) (x y : Association) : (s.setAu x).setAu y = s.setAu y := rfl
theorem State.setAu_self (s : State) : s.setAu s.au = s := rfl

/-! ## setSv -/

@[simp] theorem State.setSv_now (s : State) (x : SeatValidator) : (s.setSv x).now = s.now := rfl
@[simp] theorem State.setSv_pending (s : State) (x : SeatValidator) : (s.setSv x).pending = s.pending := rfl
@[simp] theorem State.setSv_freeCount (s : State) (x : SeatValidator) : (s.setSv x).freeCount = s.freeCount := rfl
@[simp] theorem State.setSv_sl (s : State) (x : SeatValidator) : (s.setSv x).sl = s.sl := rfl
@[simp] theorem State.setSv_au (s : State) (x : SeatValidator) : (s.setSv x).au = s.au := rfl
@[simp] theorem State.setSv_sv (s : State) (x : SeatValidator) : (s.setSv x).sv = x := rfl
@[simp] theorem State.setSv_ru (s : State) (x : SeatValidator) : (s.setSv x).ru = s.ru := rfl
@[simp] theorem State.setSv_anu (s : State) (x : SeatValidator) : (s.setSv x).anu = s.anu := rfl
@[simp] theorem State.setSv_cb (s : State) (x : SeatValidator) : (s.setSv x).cb = s.cb := rfl
@[simp] theorem State.setSv_rbc (s : State) (x : SeatValidator) : (s.setSv x).rbc = s.rbc := rfl
@[simp] theorem State.setSv_rp (s : State) (x : SeatValidator) : (s.setSv x).rp = s.rp := rfl
@[simp] theorem State.setSv_setSv (s : State) (x y : SeatValidator) : (s.setSv x).setSv y = s.setSv y := rfl
theorem State.setSv_self (s : State) : s.setSv s.sv = s := rfl

/-! ## setRu -/

@[simp] theorem State.setRu_now (s : State) (x : ReplayUnit) : (s.setRu x).now = s.now := rfl
@[simp] theorem State.setRu_pending (s : State) (x : ReplayUnit) : (s.setRu x).pending = s.pending := rfl
@[simp] theorem State.setRu_freeCount (s : State) (x : ReplayUnit) : (s.setRu x).freeCount = s.freeCount := rfl
@[simp] theorem State.setRu_sl (s : State) (x : ReplayUnit) : (s.setRu x).sl = s.sl := rfl
@[simp] theorem State.setRu_au (s : State) (x : ReplayUnit) : (s.setRu x).au = s.au := rfl
@[simp] theorem State.setRu_sv (s : State) (x : ReplayUnit) : (s.setRu x).sv = s.sv := rfl
@[simp] theorem State.setRu_ru (s : State) (x : ReplayUnit) : (s.setRu x).ru = x := rfl
@[simp] theorem State.setRu_anu (s : State) (x : ReplayUnit) : (s.setRu x).anu = s.anu := rfl
@[simp] theorem State.setRu_cb (s : State) (x : ReplayUnit) : (s.setRu x).cb = s.cb := rfl
@[simp] theorem State.setRu_rbc (s : State) (x : ReplayUnit) : (s.setRu x).rbc = s.rbc := rfl
@[simp] theorem State.setRu_rp (s : State) (x : ReplayUnit) : (s.setRu x).rp = s.rp := rfl
@[simp] theorem State.setRu_setRu (s : State) (x y : ReplayUnit) : (s.setRu x).setRu y = s.setRu y := rfl
theorem State.setRu_self (s : State) : s.setRu s.ru = s := rfl

/-! ## setAnu -/

@[simp] theorem State.setAnu_now (s : State) (x : Announcement) : (s.setAnu x).now = s.now := rfl
@[simp] theorem State.setAnu_pending (s : State) (x : Announcement) : (s.setAnu x).pending = s.pending := rfl
@[simp] theorem State.setAnu_freeCount (s : State) (x : Announcement) : (s.setAnu x).freeCount = s.freeCount := rfl
@[simp] theorem State.setAnu_sl (s : State) (x : Announcement) : (s.setAnu x).sl = s.sl := rfl
@[simp] theorem State.setAnu_au (s : State) (x : Announcement) : (s.setAnu x).au = s.au := rfl
@[simp] theorem State.setAnu_sv (s : State) (x : Announcement) : (s.setAnu x).sv = s.sv := rfl
@[simp] theorem State.setAnu_ru (s : State) (x : Announcement) : (s.setAnu x).ru = s.ru := rfl
@[simp] theorem State.setAnu_anu (s : State) (x : Announcement) : (s.setAnu x).anu = x := rfl
@[simp] theorem State.setAnu_cb (s : State) (x : Announcement) : (s.setAnu x).cb = s.cb := rfl
@[simp] theorem State.setAnu_rbc (s : State) (x : Announcement) : (s.setAnu x).rbc = s.rbc := rfl
@[simp] theorem State.setAnu_rp (s : State) (x : Announcement) : (s.setAnu x).rp = s.rp := rfl
@[simp] theorem State.setAnu_setAnu (s : State) (x y : Announcement) : (s.setAnu x).setAnu y = s.setAnu y := rfl
theorem State.setAnu_self (s : State) : s.setAnu s.anu = s := rfl

/-! ## setCb -/

@[simp] theorem State.setCb_now (s : State) (x : CounterBank) : (s.setCb x).now = s.now := rfl
@[simp] theorem State.setCb_pending (s : State) (x : CounterBank) : (s.setCb x).pending = s.pending := rfl
@[simp] theorem State.setCb_freeCount (s : State) (x : CounterBank) : (s.setCb x).freeCount = s.freeCount := rfl
@[simp] theorem State.setCb_sl (s : State) (x : CounterBank) : (s.setCb x).sl = s.sl := rfl
@[simp] theorem State.setCb_au (s : State) (x : CounterBank) : (s.setCb x).au = s.au := rfl
@[simp] theorem State.setCb_sv (s : State) (x : CounterBank) : (s.setCb x).sv = s.sv := rfl
@[simp] theorem State.setCb_ru (s : State) (x : CounterBank) : (s.setCb x).ru = s.ru := rfl
@[simp] theorem State.setCb_anu (s : State) (x : CounterBank) : (s.setCb x).anu = s.anu := rfl
@[simp] theorem State.setCb_cb (s : State) (x : CounterBank) : (s.setCb x).cb = x := rfl
@[simp] theorem State.setCb_rbc (s : State) (x : CounterBank) : (s.setCb x).rbc = s.rbc := rfl
@[simp] theorem State.setCb_rp (s : State) (x : CounterBank) : (s.setCb x).rp = s.rp := rfl
@[simp] theorem State.setCb_setCb (s : State) (x y : CounterBank) : (s.setCb x).setCb y = s.setCb y := rfl
theorem State.setCb_self (s : State) : s.setCb s.cb = s := rfl

/-! ## setRbc -/

@[simp] theorem State.setRbc_now (s : State) (x : RowBus) : (s.setRbc x).now = s.now := rfl
@[simp] theorem State.setRbc_pending (s : State) (x : RowBus) : (s.setRbc x).pending = s.pending := rfl
@[simp] theorem State.setRbc_freeCount (s : State) (x : RowBus) : (s.setRbc x).freeCount = s.freeCount := rfl
@[simp] theorem State.setRbc_sl (s : State) (x : RowBus) : (s.setRbc x).sl = s.sl := rfl
@[simp] theorem State.setRbc_au (s : State) (x : RowBus) : (s.setRbc x).au = s.au := rfl
@[simp] theorem State.setRbc_sv (s : State) (x : RowBus) : (s.setRbc x).sv = s.sv := rfl
@[simp] theorem State.setRbc_ru (s : State) (x : RowBus) : (s.setRbc x).ru = s.ru := rfl
@[simp] theorem State.setRbc_anu (s : State) (x : RowBus) : (s.setRbc x).anu = s.anu := rfl
@[simp] theorem State.setRbc_cb (s : State) (x : RowBus) : (s.setRbc x).cb = s.cb := rfl
@[simp] theorem State.setRbc_rbc (s : State) (x : RowBus) : (s.setRbc x).rbc = x := rfl
@[simp] theorem State.setRbc_rp (s : State) (x : RowBus) : (s.setRbc x).rp = s.rp := rfl
@[simp] theorem State.setRbc_setRbc (s : State) (x y : RowBus) : (s.setRbc x).setRbc y = s.setRbc y := rfl
theorem State.setRbc_self (s : State) : s.setRbc s.rbc = s := rfl

/-! ## setRp -/

@[simp] theorem State.setRp_now (s : State) (x : RadioPort) : (s.setRp x).now = s.now := rfl
@[simp] theorem State.setRp_pending (s : State) (x : RadioPort) : (s.setRp x).pending = s.pending := rfl
@[simp] theorem State.setRp_freeCount (s : State) (x : RadioPort) : (s.setRp x).freeCount = s.freeCount := rfl
@[simp] theorem State.setRp_sl (s : State) (x : RadioPort) : (s.setRp x).sl = s.sl := rfl
@[simp] theorem State.setRp_au (s : State) (x : RadioPort) : (s.setRp x).au = s.au := rfl
@[simp] theorem State.setRp_sv (s : State) (x : RadioPort) : (s.setRp x).sv = s.sv := rfl
@[simp] theorem State.setRp_ru (s : State) (x : RadioPort) : (s.setRp x).ru = s.ru := rfl
@[simp] theorem State.setRp_anu (s : State) (x : RadioPort) : (s.setRp x).anu = s.anu := rfl
@[simp] theorem State.setRp_cb (s : State) (x : RadioPort) : (s.setRp x).cb = s.cb := rfl
@[simp] theorem State.setRp_rbc (s : State) (x : RadioPort) : (s.setRp x).rbc = s.rbc := rfl
@[simp] theorem State.setRp_rp (s : State) (x : RadioPort) : (s.setRp x).rp = x := rfl
@[simp] theorem State.setRp_setRp (s : State) (x y : RadioPort) : (s.setRp x).setRp y = s.setRp y := rfl
theorem State.setRp_self (s : State) : s.setRp s.rp = s := rfl

/-! ## Time and the free draws -/

@[simp] theorem State.elapse_now (s : State) (dt : Time) : (s.elapse dt).now = s.now + dt := rfl
@[simp] theorem State.elapse_pending (s : State) (dt : Time) : (s.elapse dt).pending = s.pending := rfl
@[simp] theorem State.elapse_freeCount (s : State) (dt : Time) : (s.elapse dt).freeCount = s.freeCount := rfl
@[simp] theorem State.elapse_sl (s : State) (dt : Time) : (s.elapse dt).sl = s.sl := rfl
@[simp] theorem State.elapse_au (s : State) (dt : Time) : (s.elapse dt).au = s.au := rfl
@[simp] theorem State.elapse_sv (s : State) (dt : Time) : (s.elapse dt).sv = s.sv := rfl
@[simp] theorem State.elapse_ru (s : State) (dt : Time) : (s.elapse dt).ru = s.ru := rfl
@[simp] theorem State.elapse_anu (s : State) (dt : Time) : (s.elapse dt).anu = s.anu := rfl
@[simp] theorem State.elapse_cb (s : State) (dt : Time) : (s.elapse dt).cb = s.cb := rfl
@[simp] theorem State.elapse_rbc (s : State) (dt : Time) : (s.elapse dt).rbc = s.rbc := rfl
@[simp] theorem State.elapse_rp (s : State) (dt : Time) : (s.elapse dt).rp = s.rp := rfl

@[simp] theorem State.drawn_now (s : State) : s.drawn.now = s.now := rfl
@[simp] theorem State.drawn_pending (s : State) : s.drawn.pending = s.pending := rfl
@[simp] theorem State.drawn_freeCount (s : State) : s.drawn.freeCount = s.freeCount + 1 := rfl
@[simp] theorem State.drawn_sl (s : State) : s.drawn.sl = s.sl := rfl
@[simp] theorem State.drawn_au (s : State) : s.drawn.au = s.au := rfl
@[simp] theorem State.drawn_sv (s : State) : s.drawn.sv = s.sv := rfl
@[simp] theorem State.drawn_ru (s : State) : s.drawn.ru = s.ru := rfl
@[simp] theorem State.drawn_anu (s : State) : s.drawn.anu = s.anu := rfl
@[simp] theorem State.drawn_cb (s : State) : s.drawn.cb = s.cb := rfl
@[simp] theorem State.drawn_rbc (s : State) : s.drawn.rbc = s.rbc := rfl
@[simp] theorem State.drawn_rp (s : State) : s.drawn.rp = s.rp := rfl

/-! ## Two states with equal fields are equal -/

theorem State.ext_fields {s t : State} (h1 : s.now = t.now) (h2 : s.pending = t.pending) (h3 : s.freeCount = t.freeCount)
    (h4 : s.sl = t.sl) (h5 : s.au = t.au) (h6 : s.sv = t.sv) (h7 : s.ru = t.ru) (h8 : s.anu = t.anu) (h9 : s.cb = t.cb)
    (h10 : s.rbc = t.rbc) (h11 : s.rp = t.rp) : s = t := by
  cases s; cases t; simp_all

end Sys2Proof.Machine
end

