-- ==== Sys2Proof/Laws/Frames.lean ====
section
/-! SUPPORT. What each operation leaves unchanged: one lemma for each part of the state that an operation does not touch. -/

namespace Sys2Proof.Machine

/-- A fold keeps what each of its steps keeps. -/
theorem foldl_frame {α β : Type} (π : State → β) {f : State → α → State} (h : ∀ s x, π (f s x) = π s) (l : List α) (s : State) :
    π (l.foldl f s) = π s := by
  induction l generalizing s with
  | nil => rfl
  | cons x xs ih => simp [ih, h]

/-! ## Ops.lean -/

@[simp] theorem State.armHarvest_frame (s : State) :
    s.armHarvest.now = s.now ∧ s.armHarvest.pending = s.pending ∧ s.armHarvest.freeCount = s.freeCount ∧
      s.armHarvest.sl = s.sl ∧ s.armHarvest.au = s.au ∧ s.armHarvest.sv = s.sv ∧ s.armHarvest.ru = s.ru ∧
      s.armHarvest.cb = s.cb ∧ s.armHarvest.rbc = s.rbc ∧ s.armHarvest.rp = s.rp := by
  refine ⟨?_, ?_, ?_, ?_, ?_, ?_, ?_, ?_, ?_, ?_⟩ <;> simp [State.armHarvest]

@[simp] theorem State.count_frame (s : State) (k : CounterId) :
    (s.count k).now = s.now ∧ (s.count k).pending = s.pending ∧ (s.count k).freeCount = s.freeCount ∧
      (s.count k).sl = s.sl ∧ (s.count k).au = s.au ∧ (s.count k).sv = s.sv ∧ (s.count k).ru = s.ru ∧
      (s.count k).rbc = s.rbc ∧ (s.count k).rp = s.rp := by
  refine ⟨?_, ?_, ?_, ?_, ?_, ?_, ?_, ?_, ?_⟩ <;>
    (simp only [State.count]; (repeat' split) <;> simp)

@[simp] theorem State.startTransfer_frame (s : State) :
    s.startTransfer.now = s.now ∧ s.startTransfer.pending = s.pending ∧ s.startTransfer.freeCount = s.freeCount ∧
      s.startTransfer.sl = s.sl ∧ s.startTransfer.au = s.au ∧ s.startTransfer.sv = s.sv ∧ s.startTransfer.ru = s.ru ∧
      s.startTransfer.anu = s.anu ∧ s.startTransfer.cb = s.cb ∧ s.startTransfer.rbc = s.rbc := by
  refine ⟨?_, ?_, ?_, ?_, ?_, ?_, ?_, ?_, ?_, ?_⟩ <;>
    (simp only [State.startTransfer]; (repeat' split) <;> simp)

@[simp] theorem State.enqueueDownlink_frame (s : State) (r : Downlink) :
    (s.enqueueDownlink r).now = s.now ∧ (s.enqueueDownlink r).pending = s.pending ∧
      (s.enqueueDownlink r).freeCount = s.freeCount ∧ (s.enqueueDownlink r).sl = s.sl ∧ (s.enqueueDownlink r).au = s.au ∧
      (s.enqueueDownlink r).sv = s.sv ∧ (s.enqueueDownlink r).ru = s.ru ∧ (s.enqueueDownlink r).anu = s.anu ∧
      (s.enqueueDownlink r).cb = s.cb ∧ (s.enqueueDownlink r).rbc = s.rbc := by
  refine ⟨?_, ?_, ?_, ?_, ?_, ?_, ?_, ?_, ?_, ?_⟩ <;> simp [State.enqueueDownlink]

@[simp] theorem State.handReply_frame (s : State) (r : Downlink) :
    (s.handReply r).now = s.now ∧ (s.handReply r).pending = s.pending ∧ (s.handReply r).freeCount = s.freeCount ∧
      (s.handReply r).sl = s.sl ∧ (s.handReply r).au = s.au ∧ (s.handReply r).sv = s.sv ∧ (s.handReply r).ru = s.ru ∧
      (s.handReply r).rbc = s.rbc := by
  refine ⟨?_, ?_, ?_, ?_, ?_, ?_, ?_, ?_⟩ <;>
    (simp only [State.handReply]; (repeat' split) <;> simp)

/-! ## Replay.lean -/

@[simp] theorem State.updateEntry_frame (s : State) (c : ClientId) (g : ClientEntry → ClientEntry) :
    (s.updateEntry c g).now = s.now ∧ (s.updateEntry c g).pending = s.pending ∧
      (s.updateEntry c g).freeCount = s.freeCount ∧ (s.updateEntry c g).sl = s.sl ∧ (s.updateEntry c g).sv = s.sv ∧
      (s.updateEntry c g).ru = s.ru ∧ (s.updateEntry c g).anu = s.anu ∧ (s.updateEntry c g).cb = s.cb ∧
      (s.updateEntry c g).rbc = s.rbc ∧ (s.updateEntry c g).rp = s.rp := by
  refine ⟨?_, ?_, ?_, ?_, ?_, ?_, ?_, ?_, ?_, ?_⟩ <;> simp [State.updateEntry]

@[simp] theorem State.rescore_frame (s : State) (c : ClientId) :
    (s.rescore c).now = s.now ∧ (s.rescore c).pending = s.pending ∧ (s.rescore c).freeCount = s.freeCount ∧
      (s.rescore c).sl = s.sl ∧ (s.rescore c).sv = s.sv ∧ (s.rescore c).ru = s.ru ∧ (s.rescore c).anu = s.anu ∧
      (s.rescore c).cb = s.cb ∧ (s.rescore c).rbc = s.rbc ∧ (s.rescore c).rp = s.rp := by
  refine ⟨?_, ?_, ?_, ?_, ?_, ?_, ?_, ?_, ?_, ?_⟩ <;> simp [State.rescore]

@[simp] theorem State.handOverU_frame (s : State) (u : Nat) :
    (s.handOverU u).now = s.now ∧ (s.handOverU u).pending = s.pending ∧ (s.handOverU u).freeCount = s.freeCount ∧
      (s.handOverU u).sl = s.sl ∧ (s.handOverU u).sv = s.sv ∧ (s.handOverU u).anu = s.anu ∧ (s.handOverU u).cb = s.cb ∧
      (s.handOverU u).rbc = s.rbc ∧ (s.handOverU u).rp = s.rp := by
  refine ⟨?_, ?_, ?_, ?_, ?_, ?_, ?_, ?_, ?_⟩ <;> simp [State.handOverU]

@[simp] theorem State.updateStream_frame (s : State) (i : StreamId) (g : StreamEntry → StreamEntry) :
    (s.updateStream i g).now = s.now ∧ (s.updateStream i g).pending = s.pending ∧
      (s.updateStream i g).freeCount = s.freeCount ∧ (s.updateStream i g).sl = s.sl ∧ (s.updateStream i g).au = s.au ∧
      (s.updateStream i g).sv = s.sv ∧ (s.updateStream i g).anu = s.anu ∧ (s.updateStream i g).cb = s.cb ∧
      (s.updateStream i g).rbc = s.rbc ∧ (s.updateStream i g).rp = s.rp := by
  refine ⟨?_, ?_, ?_, ?_, ?_, ?_, ?_, ?_, ?_, ?_⟩ <;> simp [State.updateStream]

@[simp] theorem State.deleteStream_frame (s : State) (i : StreamId) :
    (s.deleteStream i).now = s.now ∧ (s.deleteStream i).pending = s.pending ∧
      (s.deleteStream i).freeCount = s.freeCount ∧ (s.deleteStream i).sl = s.sl ∧ (s.deleteStream i).au = s.au ∧
      (s.deleteStream i).sv = s.sv ∧ (s.deleteStream i).anu = s.anu ∧ (s.deleteStream i).cb = s.cb ∧
      (s.deleteStream i).rbc = s.rbc ∧ (s.deleteStream i).rp = s.rp := by
  refine ⟨?_, ?_, ?_, ?_, ?_, ?_, ?_, ?_, ?_, ?_⟩ <;> simp [State.deleteStream]

@[simp] theorem State.addUnits_frame (s : State) (n : Nat) :
    (s.addUnits n).now = s.now ∧ (s.addUnits n).pending = s.pending ∧ (s.addUnits n).freeCount = s.freeCount ∧
      (s.addUnits n).sl = s.sl ∧ (s.addUnits n).au = s.au ∧ (s.addUnits n).sv = s.sv ∧ (s.addUnits n).anu = s.anu ∧
      (s.addUnits n).cb = s.cb ∧ (s.addUnits n).rbc = s.rbc ∧ (s.addUnits n).rp = s.rp := by
  refine ⟨?_, ?_, ?_, ?_, ?_, ?_, ?_, ?_, ?_, ?_⟩ <;> simp [State.addUnits]

@[simp] theorem State.airSegment_frame (s : State) (e : StreamEntry) (g : Segment) :
    (s.airSegment e g).now = s.now ∧ (s.airSegment e g).pending = s.pending ∧
      (s.airSegment e g).freeCount = s.freeCount ∧ (s.airSegment e g).sl = s.sl ∧ (s.airSegment e g).au = s.au ∧
      (s.airSegment e g).sv = s.sv ∧ (s.airSegment e g).rbc = s.rbc := by
  refine ⟨?_, ?_, ?_, ?_, ?_, ?_, ?_⟩ <;> simp [State.airSegment]

@[simp] theorem State.fillSlot_frame (s : State) (e : StreamEntry) :
    (s.fillSlot e).now = s.now ∧ (s.fillSlot e).pending = s.pending ∧ (s.fillSlot e).freeCount = s.freeCount ∧
      (s.fillSlot e).sl = s.sl ∧ (s.fillSlot e).au = s.au ∧ (s.fillSlot e).sv = s.sv ∧ (s.fillSlot e).anu = s.anu ∧
      (s.fillSlot e).cb = s.cb ∧ (s.fillSlot e).rbc = s.rbc := by
  refine ⟨?_, ?_, ?_, ?_, ?_, ?_, ?_, ?_, ?_⟩ <;>
    (simp only [State.fillSlot]; (repeat' split) <;> simp)

@[simp] theorem State.underrun_frame (s : State) (e : StreamEntry) :
    (s.underrun e).now = s.now ∧ (s.underrun e).pending = s.pending ∧ (s.underrun e).freeCount = s.freeCount ∧
      (s.underrun e).sl = s.sl ∧ (s.underrun e).au = s.au ∧ (s.underrun e).sv = s.sv ∧ (s.underrun e).rbc = s.rbc := by
  refine ⟨?_, ?_, ?_, ?_, ?_, ?_, ?_⟩ <;> simp [State.underrun]

@[simp] theorem State.startSlot_frame (s : State) (k : Nat) :
    (s.startSlot k).now = s.now ∧ (s.startSlot k).pending = s.pending ∧ (s.startSlot k).freeCount = s.freeCount ∧
      (s.startSlot k).sl = s.sl ∧ (s.startSlot k).au = s.au ∧ (s.startSlot k).sv = s.sv ∧ (s.startSlot k).rbc = s.rbc := by
  refine ⟨?_, ?_, ?_, ?_, ?_, ?_, ?_⟩ <;>
    (simp only [State.startSlot]; (repeat' split) <;> simp)

@[simp] theorem State.startCycle_frame (s : State) (o : Nat → Nat) :
    (s.startCycle o).now = s.now ∧ (s.startCycle o).pending = s.pending ∧ (s.startCycle o).freeCount = s.freeCount ∧
      (s.startCycle o).sl = s.sl ∧ (s.startCycle o).au = s.au ∧ (s.startCycle o).sv = s.sv ∧
      (s.startCycle o).rbc = s.rbc := by
  refine ⟨?_, ?_, ?_, ?_, ?_, ?_, ?_⟩ <;> simp [State.startCycle]

@[simp] theorem State.startCycleFromStopped_frame (s : State) :
    s.startCycleFromStopped.now = s.now ∧ s.startCycleFromStopped.pending = s.pending ∧
      s.startCycleFromStopped.freeCount = s.freeCount ∧ s.startCycleFromStopped.sl = s.sl ∧
      s.startCycleFromStopped.au = s.au ∧ s.startCycleFromStopped.sv = s.sv ∧ s.startCycleFromStopped.rbc = s.rbc := by
  refine ⟨?_, ?_, ?_, ?_, ?_, ?_, ?_⟩ <;> simp [State.startCycleFromStopped]

@[simp] theorem State.startNextCycle_frame (s : State) :
    s.startNextCycle.now = s.now ∧ s.startNextCycle.pending = s.pending ∧ s.startNextCycle.freeCount = s.freeCount ∧
      s.startNextCycle.sl = s.sl ∧ s.startNextCycle.au = s.au ∧ s.startNextCycle.sv = s.sv ∧
      s.startNextCycle.rbc = s.rbc := by
  refine ⟨?_, ?_, ?_, ?_, ?_, ?_, ?_⟩ <;> simp [State.startNextCycle]

@[simp] theorem State.compareWants_frame (s : State) :
    s.compareWants.now = s.now ∧ s.compareWants.pending = s.pending ∧ s.compareWants.freeCount = s.freeCount ∧
      s.compareWants.sl = s.sl ∧ s.compareWants.au = s.au ∧ s.compareWants.sv = s.sv ∧ s.compareWants.ru = s.ru ∧
      s.compareWants.cb = s.cb ∧ s.compareWants.rbc = s.rbc ∧ s.compareWants.rp = s.rp := by
  refine ⟨?_, ?_, ?_, ?_, ?_, ?_, ?_, ?_, ?_, ?_⟩ <;>
    (simp only [State.compareWants]; (repeat' split) <;> simp)

@[simp] theorem State.stopCycle_frame (s : State) :
    s.stopCycle.now = s.now ∧ s.stopCycle.pending = s.pending ∧ s.stopCycle.freeCount = s.freeCount ∧
      s.stopCycle.sl = s.sl ∧ s.stopCycle.sv = s.sv ∧ s.stopCycle.anu = s.anu ∧ s.stopCycle.cb = s.cb ∧
      s.stopCycle.rbc = s.rbc ∧ s.stopCycle.rp = s.rp := by
  refine ⟨?_, ?_, ?_, ?_, ?_, ?_, ?_, ?_, ?_⟩ <;> simp [State.stopCycle]

@[simp] theorem State.endCycle_frame (s : State) :
    s.endCycle.now = s.now ∧ s.endCycle.pending = s.pending ∧ s.endCycle.freeCount = s.freeCount ∧ s.endCycle.sl = s.sl ∧
      s.endCycle.sv = s.sv ∧ s.endCycle.rbc = s.rbc := by
  refine ⟨?_, ?_, ?_, ?_, ?_, ?_⟩ <;>
    (simp only [State.endCycle]; (repeat' split) <;> simp)

@[simp] theorem State.raiseCount_frame (s : State) (i : StreamId) :
    (s.raiseCount i).now = s.now ∧ (s.raiseCount i).pending = s.pending ∧ (s.raiseCount i).freeCount = s.freeCount ∧
      (s.raiseCount i).sl = s.sl ∧ (s.raiseCount i).au = s.au ∧ (s.raiseCount i).sv = s.sv ∧
      (s.raiseCount i).rbc = s.rbc := by
  refine ⟨?_, ?_, ?_, ?_, ?_, ?_, ?_⟩ <;>
    (simp only [State.raiseCount]; (repeat' split) <;> simp)

@[simp] theorem State.lowerCount_frame (s : State) (i : StreamId) :
    (s.lowerCount i).now = s.now ∧ (s.lowerCount i).pending = s.pending ∧ (s.lowerCount i).freeCount = s.freeCount ∧
      (s.lowerCount i).sl = s.sl ∧ (s.lowerCount i).au = s.au ∧ (s.lowerCount i).sv = s.sv ∧
      (s.lowerCount i).anu = s.anu ∧ (s.lowerCount i).cb = s.cb ∧ (s.lowerCount i).rbc = s.rbc ∧
      (s.lowerCount i).rp = s.rp := by
  refine ⟨?_, ?_, ?_, ?_, ?_, ?_, ?_, ?_, ?_, ?_⟩ <;> simp [State.lowerCount]

/-! ## Clients.lean -/

@[simp] theorem State.eraseSighting_frame (s : State) (c : ClientId) :
    (s.eraseSighting c).now = s.now ∧ (s.eraseSighting c).pending = s.pending ∧
      (s.eraseSighting c).freeCount = s.freeCount ∧ (s.eraseSighting c).sl = s.sl ∧ (s.eraseSighting c).sv = s.sv ∧
      (s.eraseSighting c).ru = s.ru ∧ (s.eraseSighting c).anu = s.anu ∧ (s.eraseSighting c).cb = s.cb ∧
      (s.eraseSighting c).rbc = s.rbc ∧ (s.eraseSighting c).rp = s.rp := by
  refine ⟨?_, ?_, ?_, ?_, ?_, ?_, ?_, ?_, ?_, ?_⟩ <;> simp [State.eraseSighting]

@[simp] theorem State.updateSighting_frame (s : State) (c : ClientId) (g : Sighting → Sighting) :
    (s.updateSighting c g).now = s.now ∧ (s.updateSighting c g).pending = s.pending ∧
      (s.updateSighting c g).freeCount = s.freeCount ∧ (s.updateSighting c g).sl = s.sl ∧
      (s.updateSighting c g).sv = s.sv ∧ (s.updateSighting c g).ru = s.ru ∧ (s.updateSighting c g).anu = s.anu ∧
      (s.updateSighting c g).cb = s.cb ∧ (s.updateSighting c g).rbc = s.rbc ∧ (s.updateSighting c g).rp = s.rp := by
  refine ⟨?_, ?_, ?_, ?_, ?_, ?_, ?_, ?_, ?_, ?_⟩ <;> simp [State.updateSighting]

@[simp] theorem State.createEntry_frame (s : State) (e : ClientEntry) :
    (s.createEntry e).now = s.now ∧ (s.createEntry e).pending = s.pending ∧ (s.createEntry e).freeCount = s.freeCount ∧
      (s.createEntry e).sl = s.sl ∧ (s.createEntry e).sv = s.sv ∧ (s.createEntry e).ru = s.ru ∧
      (s.createEntry e).anu = s.anu ∧ (s.createEntry e).cb = s.cb ∧ (s.createEntry e).rbc = s.rbc ∧
      (s.createEntry e).rp = s.rp := by
  refine ⟨?_, ?_, ?_, ?_, ?_, ?_, ?_, ?_, ?_, ?_⟩ <;> simp [State.createEntry]

@[simp] theorem State.removeEntry_frame (s : State) (c : ClientId) :
    (s.removeEntry c).now = s.now ∧ (s.removeEntry c).pending = s.pending ∧ (s.removeEntry c).freeCount = s.freeCount ∧
      (s.removeEntry c).sl = s.sl ∧ (s.removeEntry c).sv = s.sv ∧ (s.removeEntry c).anu = s.anu ∧
      (s.removeEntry c).cb = s.cb ∧ (s.removeEntry c).rbc = s.rbc ∧ (s.removeEntry c).rp = s.rp := by
  refine ⟨?_, ?_, ?_, ?_, ?_, ?_, ?_, ?_, ?_⟩
  · simp only [State.removeEntry]; (repeat' split) <;> first | simp | (rw [foldl_frame State.now (fun _ _ => by simp)]; simp)
  · simp only [State.removeEntry]; (repeat' split) <;> first | simp | (rw [foldl_frame State.pending (fun _ _ => by simp)]; simp)
  · simp only [State.removeEntry]; (repeat' split) <;> first | simp | (rw [foldl_frame State.freeCount (fun _ _ => by simp)]; simp)
  · simp only [State.removeEntry]; (repeat' split) <;> first | simp | (rw [foldl_frame State.sl (fun _ _ => by simp)]; simp)
  · simp only [State.removeEntry]; (repeat' split) <;> first | simp | (rw [foldl_frame State.sv (fun _ _ => by simp)]; simp)
  · simp only [State.removeEntry]; (repeat' split) <;> first | simp | (rw [foldl_frame State.anu (fun _ _ => by simp)]; simp)
  · simp only [State.removeEntry]; (repeat' split) <;> first | simp | (rw [foldl_frame State.cb (fun _ _ => by simp)]; simp)
  · simp only [State.removeEntry]; (repeat' split) <;> first | simp | (rw [foldl_frame State.rbc (fun _ _ => by simp)]; simp)
  · simp only [State.removeEntry]; (repeat' split) <;> first | simp | (rw [foldl_frame State.rp (fun _ _ => by simp)]; simp)

@[simp] theorem State.dropEntry_frame (s : State) (c : ClientId) :
    (s.dropEntry c).now = s.now ∧ (s.dropEntry c).pending = s.pending ∧ (s.dropEntry c).freeCount = s.freeCount ∧
      (s.dropEntry c).sl = s.sl ∧ (s.dropEntry c).sv = s.sv ∧ (s.dropEntry c).rbc = s.rbc := by
  refine ⟨?_, ?_, ?_, ?_, ?_, ?_⟩ <;> simp [State.dropEntry]

@[simp] theorem State.removeIfInactive_frame (s : State) (c : ClientId) :
    (s.removeIfInactive c).now = s.now ∧ (s.removeIfInactive c).pending = s.pending ∧
      (s.removeIfInactive c).freeCount = s.freeCount ∧ (s.removeIfInactive c).sl = s.sl ∧
      (s.removeIfInactive c).sv = s.sv ∧ (s.removeIfInactive c).rbc = s.rbc := by
  refine ⟨?_, ?_, ?_, ?_, ?_, ?_⟩ <;>
    (simp only [State.removeIfInactive]; (repeat' split) <;> simp)

@[simp] theorem State.insertSighting_frame (s : State) (g : Sighting) :
    (s.insertSighting g).now = s.now ∧ (s.insertSighting g).pending = s.pending ∧
      (s.insertSighting g).freeCount = s.freeCount ∧ (s.insertSighting g).sl = s.sl ∧ (s.insertSighting g).sv = s.sv ∧
      (s.insertSighting g).ru = s.ru ∧ (s.insertSighting g).anu = s.anu ∧ (s.insertSighting g).cb = s.cb ∧
      (s.insertSighting g).rbc = s.rbc ∧ (s.insertSighting g).rp = s.rp := by
  refine ⟨?_, ?_, ?_, ?_, ?_, ?_, ?_, ?_, ?_, ?_⟩ <;>
    (simp only [State.insertSighting]; (repeat' split) <;> simp)

@[simp] theorem State.endReservation_frame (s : State) (e : ClientEntry) (a : Station) :
    (s.endReservation e a).now = s.now ∧ (s.endReservation e a).pending = s.pending ∧
      (s.endReservation e a).freeCount = s.freeCount ∧ (s.endReservation e a).sl = s.sl ∧
      (s.endReservation e a).sv = s.sv ∧ (s.endReservation e a).anu = s.anu ∧ (s.endReservation e a).cb = s.cb ∧
      (s.endReservation e a).rbc = s.rbc ∧ (s.endReservation e a).rp = s.rp := by
  refine ⟨?_, ?_, ?_, ?_, ?_, ?_, ?_, ?_, ?_⟩ <;> simp [State.endReservation]

@[simp] theorem State.recordBinding_frame (s : State) (c : ClientId) (b : Binding) :
    (s.recordBinding c b).now = s.now ∧ (s.recordBinding c b).pending = s.pending ∧
      (s.recordBinding c b).freeCount = s.freeCount ∧ (s.recordBinding c b).sl = s.sl ∧ (s.recordBinding c b).sv = s.sv ∧
      (s.recordBinding c b).ru = s.ru ∧ (s.recordBinding c b).anu = s.anu ∧ (s.recordBinding c b).cb = s.cb ∧
      (s.recordBinding c b).rbc = s.rbc ∧ (s.recordBinding c b).rp = s.rp := by
  refine ⟨?_, ?_, ?_, ?_, ?_, ?_, ?_, ?_, ?_, ?_⟩ <;>
    (simp only [State.recordBinding]; (repeat' split) <;> simp)

@[simp] theorem State.releaseBinding_frame (s : State) (c : ClientId) (n : Serial) (seat : Seat) :
    (s.releaseBinding c n seat).now = s.now ∧ (s.releaseBinding c n seat).pending = s.pending ∧
      (s.releaseBinding c n seat).freeCount = s.freeCount ∧ (s.releaseBinding c n seat).sl = s.sl ∧
      (s.releaseBinding c n seat).sv = s.sv ∧ (s.releaseBinding c n seat).rbc = s.rbc := by
  refine ⟨?_, ?_, ?_, ?_, ?_, ?_⟩ <;>
    (simp only [State.releaseBinding]; (repeat' split) <;> simp)

@[simp] theorem State.applySubscription_frame (s : State) (c : ClientId) (i : StreamId) :
    (s.applySubscription c i).now = s.now ∧ (s.applySubscription c i).pending = s.pending ∧
      (s.applySubscription c i).freeCount = s.freeCount ∧ (s.applySubscription c i).sl = s.sl ∧
      (s.applySubscription c i).sv = s.sv ∧ (s.applySubscription c i).rbc = s.rbc := by
  refine ⟨?_, ?_, ?_, ?_, ?_, ?_⟩ <;>
    (simp only [State.applySubscription]; (repeat' split) <;> simp)

@[simp] theorem State.withdrawStream_frame (s : State) (c : ClientId) (k : SubscribeCode) (i : StreamId) :
    (s.withdrawStream c k i).now = s.now ∧ (s.withdrawStream c k i).pending = s.pending ∧
      (s.withdrawStream c k i).freeCount = s.freeCount ∧ (s.withdrawStream c k i).sl = s.sl ∧
      (s.withdrawStream c k i).sv = s.sv ∧ (s.withdrawStream c k i).rbc = s.rbc := by
  refine ⟨?_, ?_, ?_, ?_, ?_, ?_⟩ <;> simp [State.withdrawStream]

@[simp] theorem State.trimSubscriptions_frame (s : State) (c : ClientId) (m : Nat) (fell : Bool) :
    (s.trimSubscriptions c m fell).now = s.now ∧ (s.trimSubscriptions c m fell).pending = s.pending ∧
      (s.trimSubscriptions c m fell).freeCount = s.freeCount ∧ (s.trimSubscriptions c m fell).sl = s.sl ∧
      (s.trimSubscriptions c m fell).sv = s.sv ∧ (s.trimSubscriptions c m fell).rbc = s.rbc := by
  refine ⟨?_, ?_, ?_, ?_, ?_, ?_⟩
  · simp only [State.trimSubscriptions]; (repeat' split) <;> simp [foldl_frame State.now (f := fun s i => State.withdrawStream s c .removed i) (fun _ _ => by simp), -List.foldl_reverse]
  · simp only [State.trimSubscriptions]; (repeat' split) <;> simp [foldl_frame State.pending (f := fun s i => State.withdrawStream s c .removed i) (fun _ _ => by simp), -List.foldl_reverse]
  · simp only [State.trimSubscriptions]; (repeat' split) <;> simp [foldl_frame State.freeCount (f := fun s i => State.withdrawStream s c .removed i) (fun _ _ => by simp), -List.foldl_reverse]
  · simp only [State.trimSubscriptions]; (repeat' split) <;> simp [foldl_frame State.sl (f := fun s i => State.withdrawStream s c .removed i) (fun _ _ => by simp), -List.foldl_reverse]
  · simp only [State.trimSubscriptions]; (repeat' split) <;> simp [foldl_frame State.sv (f := fun s i => State.withdrawStream s c .removed i) (fun _ _ => by simp), -List.foldl_reverse]
  · simp only [State.trimSubscriptions]; (repeat' split) <;> simp [foldl_frame State.rbc (f := fun s i => State.withdrawStream s c .removed i) (fun _ _ => by simp), -List.foldl_reverse]

@[simp] theorem State.completeRecord_frame (s : State) (c : ClientId) (bs : List Byte) :
    (s.completeRecord c bs).now = s.now ∧ (s.completeRecord c bs).pending = s.pending ∧
      (s.completeRecord c bs).freeCount = s.freeCount ∧ (s.completeRecord c bs).sl = s.sl ∧
      (s.completeRecord c bs).sv = s.sv ∧ (s.completeRecord c bs).rbc = s.rbc := by
  refine ⟨?_, ?_, ?_, ?_, ?_, ?_⟩ <;>
    (simp only [State.completeRecord]; (repeat' split) <;> simp)

@[simp] theorem State.takePiece_frame (s : State) (e : ClientEntry) (i : Nat) (last : Bool) (data : List Byte) :
    (s.takePiece e i last data).now = s.now ∧ (s.takePiece e i last data).pending = s.pending ∧
      (s.takePiece e i last data).freeCount = s.freeCount ∧ (s.takePiece e i last data).sl = s.sl ∧
      (s.takePiece e i last data).sv = s.sv ∧ (s.takePiece e i last data).rbc = s.rbc := by
  refine ⟨?_, ?_, ?_, ?_, ?_, ?_⟩ <;>
    (simp only [State.takePiece]; (repeat' split) <;> simp)

@[simp] theorem State.endContextWait_frame (s : State) (c : ClientId) :
    (s.endContextWait c).now = s.now ∧ (s.endContextWait c).pending = s.pending ∧
      (s.endContextWait c).freeCount = s.freeCount ∧ (s.endContextWait c).sl = s.sl ∧ (s.endContextWait c).sv = s.sv ∧
      (s.endContextWait c).ru = s.ru ∧ (s.endContextWait c).anu = s.anu ∧ (s.endContextWait c).cb = s.cb ∧
      (s.endContextWait c).rbc = s.rbc ∧ (s.endContextWait c).rp = s.rp := by
  refine ⟨?_, ?_, ?_, ?_, ?_, ?_, ?_, ?_, ?_, ?_⟩ <;> simp [State.endContextWait]

@[simp] theorem State.mergeStream_frame (s : State) (c : ClientId) (i : StreamId) :
    (State.mergeStream c s i).now = s.now ∧ (State.mergeStream c s i).pending = s.pending ∧
      (State.mergeStream c s i).freeCount = s.freeCount ∧ (State.mergeStream c s i).sl = s.sl ∧
      (State.mergeStream c s i).sv = s.sv ∧ (State.mergeStream c s i).rbc = s.rbc := by
  refine ⟨?_, ?_, ?_, ?_, ?_, ?_⟩ <;>
    (simp only [State.mergeStream]; (repeat' split) <;> simp)

@[simp] theorem State.mergeContext_frame (s : State) (c : ClientId) (x : Context) :
    (s.mergeContext c x).now = s.now ∧ (s.mergeContext c x).pending = s.pending ∧
      (s.mergeContext c x).freeCount = s.freeCount ∧ (s.mergeContext c x).sl = s.sl ∧ (s.mergeContext c x).sv = s.sv ∧
      (s.mergeContext c x).rbc = s.rbc := by
  refine ⟨?_, ?_, ?_, ?_, ?_, ?_⟩
  · simp [State.mergeContext, foldl_frame State.now (f := State.mergeStream c) (fun _ _ => by simp), -List.foldl_reverse]
  · simp [State.mergeContext, foldl_frame State.pending (f := State.mergeStream c) (fun _ _ => by simp), -List.foldl_reverse]
  · simp [State.mergeContext, foldl_frame State.freeCount (f := State.mergeStream c) (fun _ _ => by simp), -List.foldl_reverse]
  · simp [State.mergeContext, foldl_frame State.sl (f := State.mergeStream c) (fun _ _ => by simp), -List.foldl_reverse]
  · simp [State.mergeContext, foldl_frame State.sv (f := State.mergeStream c) (fun _ _ => by simp), -List.foldl_reverse]
  · simp [State.mergeContext, foldl_frame State.rbc (f := State.mergeStream c) (fun _ _ => by simp), -List.foldl_reverse]

/-! ## Delivery.lean -/

@[simp] theorem State.deliver_frame (s : State) (c : ClientId) (n : Serial) (seat : Seat) (k : TokenCode) (o : Station) :
    (s.deliver c n seat k o).now = s.now ∧ (s.deliver c n seat k o).pending = s.pending ∧
      (s.deliver c n seat k o).freeCount = s.freeCount ∧ (s.deliver c n seat k o).sl = s.sl ∧
      (s.deliver c n seat k o).sv = s.sv ∧ (s.deliver c n seat k o).ru = s.ru ∧ (s.deliver c n seat k o).rbc = s.rbc := by
  refine ⟨?_, ?_, ?_, ?_, ?_, ?_, ?_⟩ <;>
    (simp only [State.deliver]; (repeat' split) <;> simp)

@[simp] theorem State.deliverUnsolicited_frame (s : State) (c : ClientId) (n : Serial) (seat : Seat) (k : TokenCode) (o : Station) :
    (s.deliverUnsolicited c n seat k o).now = s.now ∧ (s.deliverUnsolicited c n seat k o).pending = s.pending ∧
      (s.deliverUnsolicited c n seat k o).freeCount = s.freeCount ∧ (s.deliverUnsolicited c n seat k o).sl = s.sl ∧
      (s.deliverUnsolicited c n seat k o).sv = s.sv ∧ (s.deliverUnsolicited c n seat k o).ru = s.ru ∧
      (s.deliverUnsolicited c n seat k o).rbc = s.rbc := by
  refine ⟨?_, ?_, ?_, ?_, ?_, ?_, ?_⟩ <;>
    (simp only [State.deliverUnsolicited]; (repeat' split) <;> simp)

@[simp] theorem State.erasePending_frame (s : State) (c : ClientId) (n : Serial) :
    (s.erasePending c n).now = s.now ∧ (s.erasePending c n).pending = s.pending ∧
      (s.erasePending c n).freeCount = s.freeCount ∧ (s.erasePending c n).sl = s.sl ∧ (s.erasePending c n).au = s.au ∧
      (s.erasePending c n).ru = s.ru ∧ (s.erasePending c n).anu = s.anu ∧ (s.erasePending c n).cb = s.cb ∧
      (s.erasePending c n).rbc = s.rbc ∧ (s.erasePending c n).rp = s.rp := by
  refine ⟨?_, ?_, ?_, ?_, ?_, ?_, ?_, ?_, ?_, ?_⟩ <;> simp [State.erasePending]

@[simp] theorem State.settleTryAgain_frame (s : State) (p : PendingToken) :
    (s.settleTryAgain p).now = s.now ∧ (s.settleTryAgain p).pending = s.pending ∧
      (s.settleTryAgain p).freeCount = s.freeCount ∧ (s.settleTryAgain p).sl = s.sl ∧ (s.settleTryAgain p).au = s.au ∧
      (s.settleTryAgain p).ru = s.ru ∧ (s.settleTryAgain p).rbc = s.rbc := by
  refine ⟨?_, ?_, ?_, ?_, ?_, ?_, ?_⟩ <;> simp [State.settleTryAgain, State.deliver, TokenCode.binds, TokenCode.refused]

@[simp] theorem State.forwardLost_frame (s : State) (c : ClientId) (n : Serial) (d : Station) :
    (s.forwardLost c n d).now = s.now ∧ (s.forwardLost c n d).pending = s.pending ∧
      (s.forwardLost c n d).freeCount = s.freeCount ∧ (s.forwardLost c n d).sl = s.sl ∧ (s.forwardLost c n d).au = s.au ∧
      (s.forwardLost c n d).ru = s.ru ∧ (s.forwardLost c n d).rbc = s.rbc := by
  refine ⟨?_, ?_, ?_, ?_, ?_, ?_, ?_⟩ <;>
    (simp only [State.forwardLost]; (repeat' split) <;> simp)

@[simp] theorem State.armNotice_frame (s : State) (k : NoticeKind) (n : Nat) :
    (s.armNotice k n).now = s.now ∧ (s.armNotice k n).pending = s.pending ∧ (s.armNotice k n).freeCount = s.freeCount ∧
      (s.armNotice k n).sl = s.sl ∧ (s.armNotice k n).au = s.au ∧ (s.armNotice k n).sv = s.sv ∧
      (s.armNotice k n).ru = s.ru ∧ (s.armNotice k n).cb = s.cb ∧ (s.armNotice k n).rbc = s.rbc ∧
      (s.armNotice k n).rp = s.rp := by
  refine ⟨?_, ?_, ?_, ?_, ?_, ?_, ?_, ?_, ?_, ?_⟩ <;>
    (simp only [State.armNotice]; (repeat' split) <;> simp)

/-! ## RowBus.lean -/

@[simp] theorem State.updateBuffer_frame (s : State) (k : AnnounceKind) (g : Buffer → Buffer) :
    (s.updateBuffer k g).now = s.now ∧ (s.updateBuffer k g).pending = s.pending ∧
      (s.updateBuffer k g).freeCount = s.freeCount ∧ (s.updateBuffer k g).sl = s.sl ∧ (s.updateBuffer k g).au = s.au ∧
      (s.updateBuffer k g).sv = s.sv ∧ (s.updateBuffer k g).ru = s.ru ∧ (s.updateBuffer k g).cb = s.cb ∧
      (s.updateBuffer k g).rbc = s.rbc ∧ (s.updateBuffer k g).rp = s.rp := by
  refine ⟨?_, ?_, ?_, ?_, ?_, ?_, ?_, ?_, ?_, ?_⟩ <;> simp [State.updateBuffer]

@[simp] theorem State.setQueued_frame (s : State) (k : AnnounceKind) (v : Bool) :
    (s.setQueued k v).now = s.now ∧ (s.setQueued k v).pending = s.pending ∧ (s.setQueued k v).freeCount = s.freeCount ∧
      (s.setQueued k v).sl = s.sl ∧ (s.setQueued k v).au = s.au ∧ (s.setQueued k v).sv = s.sv ∧
      (s.setQueued k v).ru = s.ru ∧ (s.setQueued k v).cb = s.cb ∧ (s.setQueued k v).rbc = s.rbc ∧
      (s.setQueued k v).rp = s.rp := by
  refine ⟨?_, ?_, ?_, ?_, ?_, ?_, ?_, ?_, ?_, ?_⟩ <;> simp [State.setQueued]

@[simp] theorem State.zeroSnapshot_frame (s : State) :
    s.zeroSnapshot.now = s.now ∧ s.zeroSnapshot.pending = s.pending ∧ s.zeroSnapshot.freeCount = s.freeCount ∧
      s.zeroSnapshot.sl = s.sl ∧ s.zeroSnapshot.au = s.au ∧ s.zeroSnapshot.sv = s.sv ∧ s.zeroSnapshot.ru = s.ru ∧
      s.zeroSnapshot.anu = s.anu ∧ s.zeroSnapshot.rbc = s.rbc ∧ s.zeroSnapshot.rp = s.rp := by
  refine ⟨?_, ?_, ?_, ?_, ?_, ?_, ?_, ?_, ?_, ?_⟩ <;> simp [State.zeroSnapshot]

@[simp] theorem State.reportLoss_frame (s : State) (x : TxFrame) :
    (s.reportLoss x).now = s.now ∧ (s.reportLoss x).pending = s.pending ∧ (s.reportLoss x).freeCount = s.freeCount ∧
      (s.reportLoss x).sl = s.sl ∧ (s.reportLoss x).au = s.au ∧ (s.reportLoss x).ru = s.ru ∧
      (s.reportLoss x).rbc = s.rbc := by
  refine ⟨?_, ?_, ?_, ?_, ?_, ?_, ?_⟩ <;>
    (simp only [State.reportLoss]; (repeat' split) <;> simp)

@[simp] theorem State.reportRefusal_frame (s : State) (x : TxFrame) :
    (s.reportRefusal x).now = s.now ∧ (s.reportRefusal x).pending = s.pending ∧
      (s.reportRefusal x).freeCount = s.freeCount ∧ (s.reportRefusal x).sl = s.sl ∧ (s.reportRefusal x).au = s.au ∧
      (s.reportRefusal x).ru = s.ru ∧ (s.reportRefusal x).rbc = s.rbc := by
  refine ⟨?_, ?_, ?_, ?_, ?_, ?_, ?_⟩ <;>
    (simp only [State.reportRefusal]; (repeat' split) <;> simp)

@[simp] theorem State.startSending_frame (s : State) :
    s.startSending.now = s.now ∧ s.startSending.pending = s.pending ∧ s.startSending.freeCount = s.freeCount ∧
      s.startSending.sl = s.sl ∧ s.startSending.au = s.au ∧ s.startSending.sv = s.sv ∧ s.startSending.ru = s.ru ∧
      s.startSending.anu = s.anu ∧ s.startSending.cb = s.cb ∧ s.startSending.rp = s.rp := by
  refine ⟨?_, ?_, ?_, ?_, ?_, ?_, ?_, ?_, ?_, ?_⟩ <;>
    (simp only [State.startSending]; (repeat' split) <;> simp)

@[simp] theorem State.nextFrame_frame (s : State) :
    s.nextFrame.now = s.now ∧ s.nextFrame.pending = s.pending ∧ s.nextFrame.freeCount = s.freeCount ∧
      s.nextFrame.sl = s.sl ∧ s.nextFrame.au = s.au ∧ s.nextFrame.sv = s.sv ∧ s.nextFrame.ru = s.ru ∧
      s.nextFrame.anu = s.anu ∧ s.nextFrame.cb = s.cb ∧ s.nextFrame.rp = s.rp := by
  refine ⟨?_, ?_, ?_, ?_, ?_, ?_, ?_, ?_, ?_, ?_⟩ <;>
    (simp only [State.nextFrame]; (repeat' split) <;> simp)

@[simp] theorem State.wait_frame (s : State) (x : TxFrame) :
    (s.wait x).now = s.now ∧ (s.wait x).pending = s.pending ∧ (s.wait x).freeCount = s.freeCount ∧ (s.wait x).sl = s.sl ∧
      (s.wait x).au = s.au ∧ (s.wait x).sv = s.sv ∧ (s.wait x).ru = s.ru ∧ (s.wait x).anu = s.anu ∧
      (s.wait x).cb = s.cb ∧ (s.wait x).rp = s.rp := by
  refine ⟨?_, ?_, ?_, ?_, ?_, ?_, ?_, ?_, ?_, ?_⟩ <;>
    (simp only [State.wait]; (repeat' split) <;> simp)

@[simp] theorem State.reportAccepted_frame (s : State) (x : TxFrame) :
    (s.reportAccepted x).now = s.now ∧ (s.reportAccepted x).pending = s.pending ∧
      (s.reportAccepted x).freeCount = s.freeCount ∧ (s.reportAccepted x).sl = s.sl ∧ (s.reportAccepted x).au = s.au ∧
      (s.reportAccepted x).sv = s.sv ∧ (s.reportAccepted x).ru = s.ru ∧ (s.reportAccepted x).cb = s.cb ∧
      (s.reportAccepted x).rbc = s.rbc ∧ (s.reportAccepted x).rp = s.rp := by
  refine ⟨?_, ?_, ?_, ?_, ?_, ?_, ?_, ?_, ?_, ?_⟩ <;>
    (simp only [State.reportAccepted]; (repeat' split) <;> simp)

@[simp] theorem State.acceptFrame_frame (s : State) (x : TxFrame) :
    (s.acceptFrame x).now = s.now ∧ (s.acceptFrame x).pending = s.pending ∧ (s.acceptFrame x).freeCount = s.freeCount ∧
      (s.acceptFrame x).sl = s.sl ∧ (s.acceptFrame x).au = s.au ∧ (s.acceptFrame x).sv = s.sv ∧
      (s.acceptFrame x).ru = s.ru ∧ (s.acceptFrame x).cb = s.cb ∧ (s.acceptFrame x).rp = s.rp := by
  refine ⟨?_, ?_, ?_, ?_, ?_, ?_, ?_, ?_, ?_⟩ <;>
    (simp only [State.acceptFrame]; (repeat' split) <;> simp)

@[simp] theorem State.evict_frame (s : State) (x : TxFrame) :
    (s.evict x).now = s.now ∧ (s.evict x).pending = s.pending ∧ (s.evict x).freeCount = s.freeCount ∧
      (s.evict x).sl = s.sl ∧ (s.evict x).au = s.au ∧ (s.evict x).ru = s.ru := by
  refine ⟨?_, ?_, ?_, ?_, ?_, ?_⟩ <;> simp [State.evict]

@[simp] theorem State.handOver_frame (s : State) (x : TxFrame) :
    (s.handOver x).1.now = s.now ∧ (s.handOver x).1.pending = s.pending ∧ (s.handOver x).1.freeCount = s.freeCount ∧
      (s.handOver x).1.sl = s.sl ∧ (s.handOver x).1.au = s.au ∧ (s.handOver x).1.ru = s.ru := by
  refine ⟨?_, ?_, ?_, ?_, ?_, ?_⟩ <;>
    (simp only [State.handOver]; (repeat' split) <;> simp)

@[simp] theorem State.send_frame (s : State) (d : Station) (m : Message) :
    (s.send d m).now = s.now ∧ (s.send d m).pending = s.pending ∧ (s.send d m).freeCount = s.freeCount ∧
      (s.send d m).sl = s.sl ∧ (s.send d m).au = s.au ∧ (s.send d m).ru = s.ru := by
  refine ⟨?_, ?_, ?_, ?_, ?_, ?_⟩ <;> simp [State.send]

@[simp] theorem State.reportCompletion_frame (s : State) (x : TxFrame) :
    (s.reportCompletion x).now = s.now ∧ (s.reportCompletion x).pending = s.pending ∧
      (s.reportCompletion x).freeCount = s.freeCount ∧ (s.reportCompletion x).sl = s.sl ∧
      (s.reportCompletion x).au = s.au ∧ (s.reportCompletion x).sv = s.sv ∧ (s.reportCompletion x).ru = s.ru ∧
      (s.reportCompletion x).rbc = s.rbc ∧ (s.reportCompletion x).rp = s.rp := by
  refine ⟨?_, ?_, ?_, ?_, ?_, ?_, ?_, ?_, ?_⟩ <;>
    (simp only [State.reportCompletion]; (repeat' split) <;> simp)

@[simp] theorem State.onLineBusy_frame (s : State) :
    s.onLineBusy.now = s.now ∧ s.onLineBusy.pending = s.pending ∧ s.onLineBusy.freeCount = s.freeCount ∧
      s.onLineBusy.sl = s.sl ∧ s.onLineBusy.au = s.au ∧ s.onLineBusy.sv = s.sv ∧ s.onLineBusy.ru = s.ru ∧
      s.onLineBusy.anu = s.anu ∧ s.onLineBusy.cb = s.cb ∧ s.onLineBusy.rp = s.rp := by
  refine ⟨?_, ?_, ?_, ?_, ?_, ?_, ?_, ?_, ?_, ?_⟩ <;> simp [State.onLineBusy]

@[simp] theorem State.refreshPeer_frame (s : State) (a : Station) :
    (s.refreshPeer a).now = s.now ∧ (s.refreshPeer a).pending = s.pending ∧ (s.refreshPeer a).freeCount = s.freeCount ∧
      (s.refreshPeer a).sl = s.sl ∧ (s.refreshPeer a).au = s.au ∧ (s.refreshPeer a).sv = s.sv ∧
      (s.refreshPeer a).ru = s.ru ∧ (s.refreshPeer a).cb = s.cb ∧ (s.refreshPeer a).rbc = s.rbc ∧
      (s.refreshPeer a).rp = s.rp := by
  refine ⟨?_, ?_, ?_, ?_, ?_, ?_, ?_, ?_, ?_, ?_⟩ <;> simp [State.refreshPeer]

@[simp] theorem State.storeFrame_frame (s : State) (x : RxFrame) :
    (s.storeFrame x).now = s.now ∧ (s.storeFrame x).pending = s.pending ∧ (s.storeFrame x).freeCount = s.freeCount ∧
      (s.storeFrame x).sl = s.sl ∧ (s.storeFrame x).au = s.au ∧ (s.storeFrame x).sv = s.sv ∧ (s.storeFrame x).ru = s.ru ∧
      (s.storeFrame x).rp = s.rp := by
  refine ⟨?_, ?_, ?_, ?_, ?_, ?_, ?_, ?_⟩ <;>
    (simp only [State.storeFrame]; (repeat' split) <;> simp)

@[simp] theorem State.addressClash_frame (s : State) :
    s.addressClash.now = s.now ∧ s.addressClash.pending = s.pending ∧ s.addressClash.freeCount = s.freeCount ∧
      s.addressClash.sl = s.sl ∧ s.addressClash.au = s.au ∧ s.addressClash.sv = s.sv ∧ s.addressClash.ru = s.ru ∧
      s.addressClash.rp = s.rp := by
  refine ⟨?_, ?_, ?_, ?_, ?_, ?_, ?_, ?_⟩ <;>
    (simp only [State.addressClash]; (repeat' split) <;> simp)

@[simp] theorem State.receive_frame (s : State) (bs : List Byte) :
    (s.receive bs).now = s.now ∧ (s.receive bs).pending = s.pending ∧ (s.receive bs).freeCount = s.freeCount ∧
      (s.receive bs).sl = s.sl ∧ (s.receive bs).au = s.au ∧ (s.receive bs).sv = s.sv ∧ (s.receive bs).ru = s.ru ∧
      (s.receive bs).rp = s.rp := by
  refine ⟨?_, ?_, ?_, ?_, ?_, ?_, ?_, ?_⟩ <;>
    (simp only [State.receive]; (repeat' split) <;> simp)

/-! ## Seats.lean -/

@[simp] theorem State.updateSeat_frame (s : State) (n : Seat) (g : SeatRecord → SeatRecord) :
    (s.updateSeat n g).now = s.now ∧ (s.updateSeat n g).pending = s.pending ∧
      (s.updateSeat n g).freeCount = s.freeCount ∧ (s.updateSeat n g).sl = s.sl ∧ (s.updateSeat n g).au = s.au ∧
      (s.updateSeat n g).ru = s.ru ∧ (s.updateSeat n g).anu = s.anu ∧ (s.updateSeat n g).cb = s.cb ∧
      (s.updateSeat n g).rbc = s.rbc ∧ (s.updateSeat n g).rp = s.rp := by
  refine ⟨?_, ?_, ?_, ?_, ?_, ?_, ?_, ?_, ?_, ?_⟩ <;> simp [State.updateSeat]

@[simp] theorem State.testPresence_frame (s : State) (c : ClientId) :
    (s.testPresence c).now = s.now ∧ (s.testPresence c).pending = s.pending ∧
      (s.testPresence c).freeCount = s.freeCount ∧ (s.testPresence c).sl = s.sl ∧ (s.testPresence c).au = s.au ∧
      (s.testPresence c).ru = s.ru ∧ (s.testPresence c).anu = s.anu ∧ (s.testPresence c).cb = s.cb ∧
      (s.testPresence c).rbc = s.rbc ∧ (s.testPresence c).rp = s.rp := by
  refine ⟨?_, ?_, ?_, ?_, ?_, ?_, ?_, ?_, ?_, ?_⟩ <;>
    (simp only [State.testPresence]; (repeat' split) <;> simp)

@[simp] theorem State.releaseSeat_frame (s : State) (h : Holder) (seat : Seat) :
    (s.releaseSeat h seat).now = s.now ∧ (s.releaseSeat h seat).pending = s.pending ∧
      (s.releaseSeat h seat).freeCount = s.freeCount ∧ (s.releaseSeat h seat).sl = s.sl := by
  refine ⟨?_, ?_, ?_, ?_⟩ <;> simp [State.releaseSeat]

@[simp] theorem State.expireHold_frame (s : State) (seat : Seat) :
    (s.expireHold seat).now = s.now ∧ (s.expireHold seat).pending = s.pending ∧
      (s.expireHold seat).freeCount = s.freeCount ∧ (s.expireHold seat).sl = s.sl := by
  refine ⟨?_, ?_, ?_, ?_⟩ <;>
    (simp only [State.expireHold]; (repeat' split) <;> simp)

@[simp] theorem State.query_frame (s : State) (a : AuthorityEntry) (h : Holder) :
    (s.query a h).now = s.now ∧ (s.query a h).pending = s.pending ∧ (s.query a h).freeCount = s.freeCount ∧
      (s.query a h).sl = s.sl ∧ (s.query a h).au = s.au ∧ (s.query a h).ru = s.ru := by
  refine ⟨?_, ?_, ?_, ?_, ?_, ?_⟩ <;> simp [State.query]

@[simp] theorem State.raiseContest_frame (s : State) (seat : Seat) (st : BoundState) (i h : Holder) :
    (s.raiseContest seat st i h).1.now = s.now ∧ (s.raiseContest seat st i h).1.pending = s.pending ∧
      (s.raiseContest seat st i h).1.freeCount = s.freeCount ∧ (s.raiseContest seat st i h).1.sl = s.sl ∧
      (s.raiseContest seat st i h).1.au = s.au ∧ (s.raiseContest seat st i h).1.ru = s.ru := by
  refine ⟨?_, ?_, ?_, ?_, ?_, ?_⟩ <;>
    (simp only [State.raiseContest]; (repeat' split) <;> simp)

@[simp] theorem State.refreshSeat_frame (s : State) (seat : Seat) (st : BoundState) (h : Holder) :
    (s.refreshSeat seat st h).1.now = s.now ∧ (s.refreshSeat seat st h).1.pending = s.pending ∧
      (s.refreshSeat seat st h).1.freeCount = s.freeCount ∧ (s.refreshSeat seat st h).1.sl = s.sl ∧
      (s.refreshSeat seat st h).1.au = s.au ∧ (s.refreshSeat seat st h).1.ru = s.ru ∧
      (s.refreshSeat seat st h).1.anu = s.anu ∧ (s.refreshSeat seat st h).1.cb = s.cb ∧
      (s.refreshSeat seat st h).1.rbc = s.rbc ∧ (s.refreshSeat seat st h).1.rp = s.rp := by
  refine ⟨?_, ?_, ?_, ?_, ?_, ?_, ?_, ?_, ?_, ?_⟩ <;>
    (simp only [State.refreshSeat]; (repeat' split) <;> simp)

@[simp] theorem State.bindSeat_frame (s : State) (seat : Seat) (h : Holder) :
    (s.bindSeat seat h).1.now = s.now ∧ (s.bindSeat seat h).1.pending = s.pending ∧
      (s.bindSeat seat h).1.freeCount = s.freeCount ∧ (s.bindSeat seat h).1.sl = s.sl ∧ (s.bindSeat seat h).1.au = s.au ∧
      (s.bindSeat seat h).1.ru = s.ru ∧ (s.bindSeat seat h).1.anu = s.anu ∧ (s.bindSeat seat h).1.cb = s.cb ∧
      (s.bindSeat seat h).1.rbc = s.rbc ∧ (s.bindSeat seat h).1.rp = s.rp := by
  refine ⟨?_, ?_, ?_, ?_, ?_, ?_, ?_, ?_, ?_, ?_⟩ <;>
    (simp only [State.bindSeat]; (repeat' split) <;> simp)

@[simp] theorem State.decideSeat_frame (s : State) (seat : Seat) (h : Holder) :
    (s.decideSeat seat h).1.now = s.now ∧ (s.decideSeat seat h).1.pending = s.pending ∧
      (s.decideSeat seat h).1.freeCount = s.freeCount ∧ (s.decideSeat seat h).1.sl = s.sl ∧
      (s.decideSeat seat h).1.au = s.au ∧ (s.decideSeat seat h).1.ru = s.ru := by
  refine ⟨?_, ?_, ?_, ?_, ?_, ?_⟩ <;>
    (simp only [State.decideSeat]; (repeat' split) <;> simp)

@[simp] theorem State.eraseAuthority_frame (s : State) (seat : Seat) :
    (s.eraseAuthority seat).now = s.now ∧ (s.eraseAuthority seat).pending = s.pending ∧
      (s.eraseAuthority seat).freeCount = s.freeCount ∧ (s.eraseAuthority seat).sl = s.sl ∧
      (s.eraseAuthority seat).au = s.au ∧ (s.eraseAuthority seat).ru = s.ru ∧ (s.eraseAuthority seat).anu = s.anu ∧
      (s.eraseAuthority seat).cb = s.cb ∧ (s.eraseAuthority seat).rbc = s.rbc ∧ (s.eraseAuthority seat).rp = s.rp := by
  refine ⟨?_, ?_, ?_, ?_, ?_, ?_, ?_, ?_, ?_, ?_⟩ <;> simp [State.eraseAuthority]

@[simp] theorem State.tellChallenger_frame (s : State) (a : AuthorityEntry) (k : TokenCode) :
    (s.tellChallenger a k).now = s.now ∧ (s.tellChallenger a k).pending = s.pending ∧
      (s.tellChallenger a k).freeCount = s.freeCount ∧ (s.tellChallenger a k).sl = s.sl ∧
      (s.tellChallenger a k).ru = s.ru := by
  refine ⟨?_, ?_, ?_, ?_, ?_⟩ <;>
    (simp only [State.tellChallenger]; (repeat' split) <;> simp)

@[simp] theorem State.applyKeep_frame (s : State) (a : AuthorityEntry) :
    (s.applyKeep a).now = s.now ∧ (s.applyKeep a).pending = s.pending ∧ (s.applyKeep a).freeCount = s.freeCount ∧
      (s.applyKeep a).sl = s.sl := by
  refine ⟨?_, ?_, ?_, ?_⟩ <;> simp [State.applyKeep]

@[simp] theorem State.releaseIncumbent_frame (s : State) (seat : Seat) :
    (s.releaseIncumbent seat).now = s.now ∧ (s.releaseIncumbent seat).pending = s.pending ∧
      (s.releaseIncumbent seat).freeCount = s.freeCount ∧ (s.releaseIncumbent seat).sl = s.sl := by
  refine ⟨?_, ?_, ?_, ?_⟩ <;>
    (simp only [State.releaseIncumbent]; (repeat' split) <;> simp)

@[simp] theorem State.applyReplace_frame (s : State) (a : AuthorityEntry) :
    (s.applyReplace a).now = s.now ∧ (s.applyReplace a).pending = s.pending ∧
      (s.applyReplace a).freeCount = s.freeCount ∧ (s.applyReplace a).sl = s.sl := by
  refine ⟨?_, ?_, ?_, ?_⟩ <;> simp [State.applyReplace]

@[simp] theorem State.applyBlock_frame (s : State) (a : AuthorityEntry) :
    (s.applyBlock a).now = s.now ∧ (s.applyBlock a).pending = s.pending ∧ (s.applyBlock a).freeCount = s.freeCount ∧
      (s.applyBlock a).sl = s.sl := by
  refine ⟨?_, ?_, ?_, ?_⟩ <;> simp [State.applyBlock]

/-! ## Tokens.lean -/

@[simp] theorem State.forwardToken_frame (s : State) (c : ClientId) (x : Token) (d : Station) :
    (s.forwardToken c x d).now = s.now ∧ (s.forwardToken c x d).pending = s.pending ∧
      (s.forwardToken c x d).freeCount = s.freeCount ∧ (s.forwardToken c x d).sl = s.sl ∧
      (s.forwardToken c x d).ru = s.ru := by
  refine ⟨?_, ?_, ?_, ?_, ?_⟩ <;>
    (simp only [State.forwardToken]; (repeat' split) <;> simp)

@[simp] theorem State.routeToken_frame (s : State) (c : ClientId) (x : Token) :
    (s.routeToken c x).now = s.now ∧ (s.routeToken c x).pending = s.pending ∧
      (s.routeToken c x).freeCount = s.freeCount ∧ (s.routeToken c x).sl = s.sl ∧ (s.routeToken c x).ru = s.ru := by
  refine ⟨?_, ?_, ?_, ?_, ?_⟩ <;>
    (simp only [State.routeToken]; (repeat' split) <;> simp)

@[simp] theorem State.takeToken_frame (s : State) (c : ClientId) (x : Token) :
    (s.takeToken c x).now = s.now ∧ (s.takeToken c x).pending = s.pending ∧ (s.takeToken c x).freeCount = s.freeCount ∧
      (s.takeToken c x).sl = s.sl ∧ (s.takeToken c x).ru = s.ru := by
  refine ⟨?_, ?_, ?_, ?_, ?_⟩ <;>
    (simp only [State.takeToken]; (repeat' split) <;> simp)

@[simp] theorem State.answerForward_frame (s : State) (a : Station) (c : ClientId) (x : Token) :
    (s.answerForward a c x).1.now = s.now ∧ (s.answerForward a c x).1.pending = s.pending ∧
      (s.answerForward a c x).1.freeCount = s.freeCount ∧ (s.answerForward a c x).1.sl = s.sl ∧
      (s.answerForward a c x).1.au = s.au ∧ (s.answerForward a c x).1.ru = s.ru := by
  refine ⟨?_, ?_, ?_, ?_, ?_, ?_⟩ <;>
    (simp only [State.answerForward]; (repeat' split) <;> simp)

@[simp] theorem State.reforward_frame (s : State) (p : PendingToken) :
    (s.reforward p).now = s.now ∧ (s.reforward p).pending = s.pending ∧ (s.reforward p).freeCount = s.freeCount ∧
      (s.reforward p).sl = s.sl ∧ (s.reforward p).au = s.au ∧ (s.reforward p).ru = s.ru := by
  refine ⟨?_, ?_, ?_, ?_, ?_, ?_⟩ <;> simp [State.reforward]

@[simp] theorem State.takeResult_frame (s : State) (a : Station) (c : ClientId) (n : Serial) (seat : Seat) (k : TokenCode) :
    (s.takeResult a c n seat k).now = s.now ∧ (s.takeResult a c n seat k).pending = s.pending ∧
      (s.takeResult a c n seat k).freeCount = s.freeCount ∧ (s.takeResult a c n seat k).sl = s.sl ∧
      (s.takeResult a c n seat k).ru = s.ru := by
  refine ⟨?_, ?_, ?_, ?_, ?_⟩ <;>
    (simp only [State.takeResult]; (repeat' split) <;> simp)

@[simp] theorem State.clearSeats_frame (s : State) :
    s.clearSeats.now = s.now ∧ s.clearSeats.pending = s.pending ∧ s.clearSeats.freeCount = s.freeCount ∧
      s.clearSeats.sl = s.sl ∧ s.clearSeats.au = s.au ∧ s.clearSeats.ru = s.ru ∧ s.clearSeats.anu = s.anu ∧
      s.clearSeats.cb = s.cb ∧ s.clearSeats.rbc = s.rbc ∧ s.clearSeats.rp = s.rp := by
  refine ⟨?_, ?_, ?_, ?_, ?_, ?_, ?_, ?_, ?_, ?_⟩ <;> simp [State.clearSeats]

@[simp] theorem State.answerPending_frame (s : State) (k : TokenCode) :
    (s.answerPending k).now = s.now ∧ (s.answerPending k).pending = s.pending ∧
      (s.answerPending k).freeCount = s.freeCount ∧ (s.answerPending k).sl = s.sl ∧ (s.answerPending k).ru = s.ru ∧
      (s.answerPending k).rbc = s.rbc := by
  refine ⟨?_, ?_, ?_, ?_, ?_, ?_⟩
  · simp only [State.answerPending]; rw [foldl_frame State.now (fun _ _ => by simp)]; simp
  · simp only [State.answerPending]; rw [foldl_frame State.pending (fun _ _ => by simp)]; simp
  · simp only [State.answerPending]; rw [foldl_frame State.freeCount (fun _ _ => by simp)]; simp
  · simp only [State.answerPending]; rw [foldl_frame State.sl (fun _ _ => by simp)]; simp
  · simp only [State.answerPending]; rw [foldl_frame State.ru (fun _ _ => by simp)]; simp
  · simp only [State.answerPending]; rw [foldl_frame State.rbc (fun _ _ => by simp)]; simp

@[simp] theorem State.emptyBindings_frame (s : State) :
    s.emptyBindings.now = s.now ∧ s.emptyBindings.pending = s.pending ∧ s.emptyBindings.sl = s.sl ∧
      s.emptyBindings.sv = s.sv ∧ s.emptyBindings.rbc = s.rbc := by
  refine ⟨?_, ?_, ?_, ?_, ?_⟩
  · simp only [State.emptyBindings]; rw [foldl_frame State.now (fun _ _ => by simp)]; simp
  · simp only [State.emptyBindings]; rw [foldl_frame State.pending (fun _ _ => by simp)]; simp
  · simp only [State.emptyBindings]; rw [foldl_frame State.sl (fun _ _ => by simp)]; simp
  · simp only [State.emptyBindings]; rw [foldl_frame State.sv (fun _ _ => by simp)]; simp
  · simp only [State.emptyBindings]; rw [foldl_frame State.rbc (fun _ _ => by simp)]; simp

@[simp] theorem State.closeMatch_frame (s : State) :
    s.closeMatch.now = s.now ∧ s.closeMatch.pending = s.pending ∧ s.closeMatch.sl = s.sl ∧ s.closeMatch.rbc = s.rbc := by
  refine ⟨?_, ?_, ?_, ?_⟩ <;> simp [State.closeMatch]

/-! ## Roam.lean -/

@[simp] theorem State.claim_frame (s : State) (g : Sighting) :
    (s.claim g).now = s.now ∧ (s.claim g).pending = s.pending ∧ (s.claim g).freeCount = s.freeCount ∧
      (s.claim g).sl = s.sl ∧ (s.claim g).ru = s.ru := by
  refine ⟨?_, ?_, ?_, ?_, ?_⟩ <;> simp [State.claim]

@[simp] theorem State.claimCheck_frame (s : State) (c : ClientId) :
    (s.claimCheck c).now = s.now ∧ (s.claimCheck c).pending = s.pending ∧ (s.claimCheck c).freeCount = s.freeCount ∧
      (s.claimCheck c).sl = s.sl ∧ (s.claimCheck c).ru = s.ru := by
  refine ⟨?_, ?_, ?_, ?_, ?_⟩ <;>
    (simp only [State.claimCheck]; (repeat' split) <;> simp)

@[simp] theorem State.signalUpdate_frame (s : State) (c : ClientId) :
    (s.signalUpdate c).now = s.now ∧ (s.signalUpdate c).pending = s.pending ∧
      (s.signalUpdate c).freeCount = s.freeCount ∧ (s.signalUpdate c).sl = s.sl ∧ (s.signalUpdate c).ru = s.ru := by
  refine ⟨?_, ?_, ?_, ?_, ?_⟩ <;>
    (simp only [State.signalUpdate]; (repeat' split) <;> simp)

@[simp] theorem State.sample_frame (s : State) (c : ClientId) (r : Int) (a : Station) :
    (s.sample c r a).now = s.now ∧ (s.sample c r a).pending = s.pending ∧ (s.sample c r a).freeCount = s.freeCount ∧
      (s.sample c r a).sl = s.sl ∧ (s.sample c r a).ru = s.ru := by
  refine ⟨?_, ?_, ?_, ?_, ?_⟩ <;>
    (simp only [State.sample]; (repeat' split) <;> simp)

@[simp] theorem State.deny_frame (s : State) (a : Station) (c : ClientId) (k : DenyReason) :
    (s.deny a c k).now = s.now ∧ (s.deny a c k).pending = s.pending ∧ (s.deny a c k).freeCount = s.freeCount ∧
      (s.deny a c k).sl = s.sl ∧ (s.deny a c k).au = s.au ∧ (s.deny a c k).ru = s.ru := by
  refine ⟨?_, ?_, ?_, ?_, ?_, ?_⟩ <;> simp [State.deny]

@[simp] theorem State.grant_frame (s : State) (a : Station) (e : ClientEntry) :
    (s.grant a e).now = s.now ∧ (s.grant a e).pending = s.pending ∧ (s.grant a e).freeCount = s.freeCount ∧
      (s.grant a e).sl = s.sl ∧ (s.grant a e).ru = s.ru := by
  refine ⟨?_, ?_, ?_, ?_, ?_⟩ <;> simp [State.grant]

@[simp] theorem State.decideClaim_frame (s : State) (a : Station) (c : ClientId) (n : Nat) :
    (s.decideClaim a c n).now = s.now ∧ (s.decideClaim a c n).pending = s.pending ∧
      (s.decideClaim a c n).freeCount = s.freeCount ∧ (s.decideClaim a c n).sl = s.sl ∧ (s.decideClaim a c n).ru = s.ru := by
  refine ⟨?_, ?_, ?_, ?_, ?_⟩ <;>
    (simp only [State.decideClaim]; (repeat' split) <;> simp)

@[simp] theorem State.takeGrant_frame (s : State) (a : Station) (c : ClientId) (x : Context) :
    (s.takeGrant a c x).now = s.now ∧ (s.takeGrant a c x).pending = s.pending ∧
      (s.takeGrant a c x).freeCount = s.freeCount ∧ (s.takeGrant a c x).sl = s.sl ∧ (s.takeGrant a c x).sv = s.sv ∧
      (s.takeGrant a c x).ru = s.ru ∧ (s.takeGrant a c x).anu = s.anu ∧ (s.takeGrant a c x).cb = s.cb ∧
      (s.takeGrant a c x).rbc = s.rbc ∧ (s.takeGrant a c x).rp = s.rp := by
  refine ⟨?_, ?_, ?_, ?_, ?_, ?_, ?_, ?_, ?_, ?_⟩ <;> simp [State.takeGrant]

@[simp] theorem State.takeLateGrant_frame (s : State) (a : Station) (c : ClientId) (x : Context) :
    (s.takeLateGrant a c x).now = s.now ∧ (s.takeLateGrant a c x).pending = s.pending ∧
      (s.takeLateGrant a c x).freeCount = s.freeCount ∧ (s.takeLateGrant a c x).sl = s.sl ∧
      (s.takeLateGrant a c x).sv = s.sv ∧ (s.takeLateGrant a c x).ru = s.ru ∧ (s.takeLateGrant a c x).anu = s.anu ∧
      (s.takeLateGrant a c x).cb = s.cb ∧ (s.takeLateGrant a c x).rbc = s.rbc ∧ (s.takeLateGrant a c x).rp = s.rp := by
  refine ⟨?_, ?_, ?_, ?_, ?_, ?_, ?_, ?_, ?_, ?_⟩ <;> simp [State.takeLateGrant]

@[simp] theorem State.mergeGrant_frame (s : State) (a : Station) (e : ClientEntry) (x : Context) :
    (s.mergeGrant a e x).now = s.now ∧ (s.mergeGrant a e x).pending = s.pending ∧
      (s.mergeGrant a e x).freeCount = s.freeCount ∧ (s.mergeGrant a e x).sl = s.sl := by
  refine ⟨?_, ?_, ?_, ?_⟩ <;>
    (simp only [State.mergeGrant]; (repeat' split) <;> simp)

@[simp] theorem State.decideGrant_frame (s : State) (a : Station) (c : ClientId) (x : Context) :
    (s.decideGrant a c x).now = s.now ∧ (s.decideGrant a c x).pending = s.pending ∧
      (s.decideGrant a c x).freeCount = s.freeCount ∧ (s.decideGrant a c x).sl = s.sl := by
  refine ⟨?_, ?_, ?_, ?_⟩ <;>
    (simp only [State.decideGrant]; (repeat' split) <;> simp)

@[simp] theorem State.takeDenial_frame (s : State) (a : Station) (c : ClientId) :
    (s.takeDenial a c).now = s.now ∧ (s.takeDenial a c).pending = s.pending ∧
      (s.takeDenial a c).freeCount = s.freeCount ∧ (s.takeDenial a c).sl = s.sl ∧ (s.takeDenial a c).sv = s.sv ∧
      (s.takeDenial a c).anu = s.anu ∧ (s.takeDenial a c).cb = s.cb ∧ (s.takeDenial a c).rbc = s.rbc ∧
      (s.takeDenial a c).rp = s.rp := by
  refine ⟨?_, ?_, ?_, ?_, ?_, ?_, ?_, ?_, ?_⟩ <;>
    (simp only [State.takeDenial]; (repeat' split) <;> simp)

@[simp] theorem State.returnEntry_frame (s : State) (c : ClientId) (h : Option Time) :
    (s.returnEntry c h).now = s.now ∧ (s.returnEntry c h).pending = s.pending ∧
      (s.returnEntry c h).freeCount = s.freeCount ∧ (s.returnEntry c h).sl = s.sl ∧ (s.returnEntry c h).sv = s.sv ∧
      (s.returnEntry c h).ru = s.ru ∧ (s.returnEntry c h).rbc = s.rbc := by
  refine ⟨?_, ?_, ?_, ?_, ?_, ?_, ?_⟩ <;> simp [State.returnEntry]

@[simp] theorem State.takeReturn_frame (s : State) (a : Station) (c : ClientId) :
    (s.takeReturn a c).now = s.now ∧ (s.takeReturn a c).pending = s.pending ∧
      (s.takeReturn a c).freeCount = s.freeCount ∧ (s.takeReturn a c).sl = s.sl ∧ (s.takeReturn a c).sv = s.sv ∧
      (s.takeReturn a c).ru = s.ru ∧ (s.takeReturn a c).rbc = s.rbc := by
  refine ⟨?_, ?_, ?_, ?_, ?_, ?_, ?_⟩ <;>
    (simp only [State.takeReturn]; (repeat' split) <;> simp)

@[simp] theorem State.followMove_frame (s : State) (c : ClientId) (a : Station) :
    (s.followMove c a).now = s.now ∧ (s.followMove c a).pending = s.pending ∧
      (s.followMove c a).freeCount = s.freeCount ∧ (s.followMove c a).sl = s.sl ∧ (s.followMove c a).ru = s.ru := by
  refine ⟨?_, ?_, ?_, ?_, ?_⟩ <;>
    (simp only [State.followMove]; (repeat' split) <;> simp)

@[simp] theorem State.takeMoved_frame (s : State) (a : Station) (c : ClientId) (w : Bool) :
    (s.takeMoved a c w).now = s.now ∧ (s.takeMoved a c w).pending = s.pending ∧
      (s.takeMoved a c w).freeCount = s.freeCount ∧ (s.takeMoved a c w).sl = s.sl := by
  refine ⟨?_, ?_, ?_, ?_⟩ <;>
    (simp only [State.takeMoved]; (repeat' split) <;> simp)

@[simp] theorem State.takeContext_frame (s : State) (a : Station) (c : ClientId) (x : Option Context) :
    (s.takeContext a c x).now = s.now ∧ (s.takeContext a c x).pending = s.pending ∧
      (s.takeContext a c x).freeCount = s.freeCount ∧ (s.takeContext a c x).sl = s.sl ∧ (s.takeContext a c x).sv = s.sv ∧
      (s.takeContext a c x).rbc = s.rbc := by
  refine ⟨?_, ?_, ?_, ?_, ?_, ?_⟩ <;>
    (simp only [State.takeContext]; (repeat' split) <;> simp)

/-! ## Uplink.lean -/

@[simp] theorem State.sampleOf_frame (s : State) (r : UplinkRecord) :
    (s.sampleOf r).now = s.now ∧ (s.sampleOf r).pending = s.pending ∧ (s.sampleOf r).freeCount = s.freeCount ∧
      (s.sampleOf r).sl = s.sl ∧ (s.sampleOf r).ru = s.ru := by
  refine ⟨?_, ?_, ?_, ?_, ?_⟩ <;> simp [State.sampleOf]

@[simp] theorem State.strayTest_frame (s : State) (r : UplinkRecord) :
    (s.strayTest r).now = s.now ∧ (s.strayTest r).pending = s.pending ∧ (s.strayTest r).freeCount = s.freeCount ∧
      (s.strayTest r).sl = s.sl ∧ (s.strayTest r).au = s.au ∧ (s.strayTest r).sv = s.sv ∧ (s.strayTest r).ru = s.ru ∧
      (s.strayTest r).rbc = s.rbc := by
  refine ⟨?_, ?_, ?_, ?_, ?_, ?_, ?_, ?_⟩ <;>
    (simp only [State.strayTest]; (repeat' split) <;> simp)

@[simp] theorem State.replyJoin_frame (s : State) (c : ClientId) (k : JoinCode) (a : Option Station) :
    (s.replyJoin c k a).now = s.now ∧ (s.replyJoin c k a).pending = s.pending ∧
      (s.replyJoin c k a).freeCount = s.freeCount ∧ (s.replyJoin c k a).sl = s.sl ∧ (s.replyJoin c k a).au = s.au ∧
      (s.replyJoin c k a).sv = s.sv ∧ (s.replyJoin c k a).ru = s.ru ∧ (s.replyJoin c k a).rbc = s.rbc := by
  refine ⟨?_, ?_, ?_, ?_, ?_, ?_, ?_, ?_⟩ <;> simp [State.replyJoin]

@[simp] theorem State.activate_frame (s : State) (e : ClientEntry) (a : Station) :
    (s.activate e a).now = s.now ∧ (s.activate e a).pending = s.pending ∧ (s.activate e a).freeCount = s.freeCount ∧
      (s.activate e a).sl = s.sl := by
  refine ⟨?_, ?_, ?_, ?_⟩
  · simp [State.activate, foldl_frame State.now (f := fun s i => State.applySubscription s e.id i) (fun _ _ => by simp), -List.foldl_reverse]
  · simp [State.activate, foldl_frame State.pending (f := fun s i => State.applySubscription s e.id i) (fun _ _ => by simp), -List.foldl_reverse]
  · simp [State.activate, foldl_frame State.freeCount (f := fun s i => State.applySubscription s e.id i) (fun _ _ => by simp), -List.foldl_reverse]
  · simp [State.activate, foldl_frame State.sl (f := fun s i => State.applySubscription s e.id i) (fun _ _ => by simp), -List.foldl_reverse]

@[simp] theorem State.admitClient_frame (s : State) (r : UplinkRecord) :
    (s.admitClient r).now = s.now ∧ (s.admitClient r).pending = s.pending ∧ (s.admitClient r).freeCount = s.freeCount ∧
      (s.admitClient r).sl = s.sl ∧ (s.admitClient r).ru = s.ru := by
  refine ⟨?_, ?_, ?_, ?_, ?_⟩ <;> simp [State.admitClient]

@[simp] theorem State.handleJoin_frame (s : State) (r : UplinkRecord) :
    (s.handleJoin r).now = s.now ∧ (s.handleJoin r).pending = s.pending ∧ (s.handleJoin r).freeCount = s.freeCount ∧
      (s.handleJoin r).sl = s.sl := by
  refine ⟨?_, ?_, ?_, ?_⟩ <;>
    (simp only [State.handleJoin]; (repeat' split) <;> simp)

@[simp] theorem State.handleLeave_frame (s : State) (c : ClientId) :
    (s.handleLeave c).now = s.now ∧ (s.handleLeave c).pending = s.pending ∧ (s.handleLeave c).freeCount = s.freeCount ∧
      (s.handleLeave c).sl = s.sl ∧ (s.handleLeave c).sv = s.sv ∧ (s.handleLeave c).rbc = s.rbc := by
  refine ⟨?_, ?_, ?_, ?_, ?_, ?_⟩ <;>
    (simp only [State.handleLeave]; (repeat' split) <;> simp)

@[simp] theorem State.unsubscribe_frame (s : State) (e : ClientEntry) (i : StreamId) :
    (s.unsubscribe e i).now = s.now ∧ (s.unsubscribe e i).pending = s.pending ∧
      (s.unsubscribe e i).freeCount = s.freeCount ∧ (s.unsubscribe e i).sl = s.sl ∧ (s.unsubscribe e i).sv = s.sv ∧
      (s.unsubscribe e i).rbc = s.rbc := by
  refine ⟨?_, ?_, ?_, ?_, ?_, ?_⟩ <;>
    (simp only [State.unsubscribe]; (repeat' split) <;> simp)

/-! ## Streams.lean -/

@[simp] theorem State.insertStream_frame (s : State) (e : StreamEntry) :
    (s.insertStream e).now = s.now ∧ (s.insertStream e).pending = s.pending ∧
      (s.insertStream e).freeCount = s.freeCount ∧ (s.insertStream e).sl = s.sl ∧ (s.insertStream e).au = s.au ∧
      (s.insertStream e).sv = s.sv ∧ (s.insertStream e).anu = s.anu ∧ (s.insertStream e).cb = s.cb ∧
      (s.insertStream e).rbc = s.rbc ∧ (s.insertStream e).rp = s.rp := by
  refine ⟨?_, ?_, ?_, ?_, ?_, ?_, ?_, ?_, ?_, ?_⟩ <;>
    (simp only [State.insertStream]; (repeat' split) <;> simp)

@[simp] theorem State.announceLive_frame (s : State) (i : StreamId) (x : Tier) (y : Fill) :
    (s.announceLive i x y).now = s.now ∧ (s.announceLive i x y).pending = s.pending ∧
      (s.announceLive i x y).freeCount = s.freeCount ∧ (s.announceLive i x y).sl = s.sl ∧
      (s.announceLive i x y).au = s.au ∧ (s.announceLive i x y).sv = s.sv ∧ (s.announceLive i x y).anu = s.anu ∧
      (s.announceLive i x y).cb = s.cb ∧ (s.announceLive i x y).rbc = s.rbc ∧ (s.announceLive i x y).rp = s.rp := by
  refine ⟨?_, ?_, ?_, ?_, ?_, ?_, ?_, ?_, ?_, ?_⟩ <;>
    (simp only [State.announceLive]; (repeat' split) <;> simp)

@[simp] theorem State.endSubscriptions_frame (s : State) (i : StreamId) :
    (s.endSubscriptions i).now = s.now ∧ (s.endSubscriptions i).pending = s.pending ∧ (s.endSubscriptions i).sl = s.sl ∧
      (s.endSubscriptions i).sv = s.sv ∧ (s.endSubscriptions i).rbc = s.rbc := by
  refine ⟨?_, ?_, ?_, ?_, ?_⟩
  · simp only [State.endSubscriptions]; rw [foldl_frame State.now (fun _ _ => by simp)]; simp
  · simp only [State.endSubscriptions]; rw [foldl_frame State.pending (fun _ _ => by simp)]; simp
  · simp only [State.endSubscriptions]; rw [foldl_frame State.sl (fun _ _ => by simp)]; simp
  · simp only [State.endSubscriptions]; rw [foldl_frame State.sv (fun _ _ => by simp)]; simp
  · simp only [State.endSubscriptions]; rw [foldl_frame State.rbc (fun _ _ => by simp)]; simp

@[simp] theorem State.announceEnded_frame (s : State) (i : StreamId) :
    (s.announceEnded i).now = s.now ∧ (s.announceEnded i).pending = s.pending ∧ (s.announceEnded i).sl = s.sl ∧
      (s.announceEnded i).sv = s.sv ∧ (s.announceEnded i).rbc = s.rbc := by
  refine ⟨?_, ?_, ?_, ?_, ?_⟩ <;>
    (simp only [State.announceEnded]; (repeat' split) <;> simp)

@[simp] theorem State.takeSegment_frame (s : State) (a : Station) (i : StreamId) (q : Sequence) (n : Nat) (data : List Byte) :
    (s.takeSegment a i q n data).now = s.now ∧ (s.takeSegment a i q n data).pending = s.pending ∧
      (s.takeSegment a i q n data).freeCount = s.freeCount ∧ (s.takeSegment a i q n data).sl = s.sl ∧
      (s.takeSegment a i q n data).au = s.au ∧ (s.takeSegment a i q n data).sv = s.sv ∧
      (s.takeSegment a i q n data).rbc = s.rbc ∧ (s.takeSegment a i q n data).rp = s.rp := by
  refine ⟨?_, ?_, ?_, ?_, ?_, ?_, ?_, ?_⟩ <;>
    (simp only [State.takeSegment]; (repeat' split) <;> simp)

@[simp] theorem State.resetReplay_frame (s : State) :
    s.resetReplay.now = s.now ∧ s.resetReplay.pending = s.pending ∧ s.resetReplay.freeCount = s.freeCount ∧
      s.resetReplay.sl = s.sl ∧ s.resetReplay.sv = s.sv ∧ s.resetReplay.rbc = s.rbc := by
  refine ⟨?_, ?_, ?_, ?_, ?_, ?_⟩ <;>
    (simp only [State.resetReplay]; (repeat' split) <;> simp)

/-! ## Announce.lean -/

@[simp] theorem State.putPeer_frame (s : State) (p : PeerEntry) :
    (s.putPeer p).now = s.now ∧ (s.putPeer p).pending = s.pending ∧ (s.putPeer p).freeCount = s.freeCount ∧
      (s.putPeer p).sl = s.sl ∧ (s.putPeer p).au = s.au ∧ (s.putPeer p).sv = s.sv ∧ (s.putPeer p).ru = s.ru ∧
      (s.putPeer p).cb = s.cb ∧ (s.putPeer p).rbc = s.rbc ∧ (s.putPeer p).rp = s.rp := by
  refine ⟨?_, ?_, ?_, ?_, ?_, ?_, ?_, ?_, ?_, ?_⟩ <;> simp [State.putPeer]

@[simp] theorem State.takePresence_frame (s : State) (x : RxFrame) (k : PeerClass) (b : Option SeatBlock) (v : Bool) :
    (s.takePresence x k b v).now = s.now ∧ (s.takePresence x k b v).pending = s.pending ∧
      (s.takePresence x k b v).freeCount = s.freeCount ∧ (s.takePresence x k b v).sl = s.sl ∧
      (s.takePresence x k b v).au = s.au ∧ (s.takePresence x k b v).sv = s.sv ∧ (s.takePresence x k b v).ru = s.ru ∧
      (s.takePresence x k b v).cb = s.cb ∧ (s.takePresence x k b v).rbc = s.rbc ∧ (s.takePresence x k b v).rp = s.rp := by
  refine ⟨?_, ?_, ?_, ?_, ?_, ?_, ?_, ?_, ?_, ?_⟩ <;>
    (simp only [State.takePresence]; (repeat' split) <;> simp)

@[simp] theorem State.takeLoad_frame (s : State) (a : Station) (l : PeerLoad) :
    (s.takeLoad a l).now = s.now ∧ (s.takeLoad a l).pending = s.pending ∧ (s.takeLoad a l).freeCount = s.freeCount ∧
      (s.takeLoad a l).sl = s.sl ∧ (s.takeLoad a l).au = s.au ∧ (s.takeLoad a l).sv = s.sv ∧ (s.takeLoad a l).ru = s.ru ∧
      (s.takeLoad a l).cb = s.cb ∧ (s.takeLoad a l).rbc = s.rbc ∧ (s.takeLoad a l).rp = s.rp := by
  refine ⟨?_, ?_, ?_, ?_, ?_, ?_, ?_, ?_, ?_, ?_⟩ <;>
    (simp only [State.takeLoad]; (repeat' split) <;> simp)

@[simp] theorem State.agePeers_frame (s : State) :
    s.agePeers.now = s.now ∧ s.agePeers.pending = s.pending ∧ s.agePeers.freeCount = s.freeCount ∧ s.agePeers.sl = s.sl ∧
      s.agePeers.au = s.au ∧ s.agePeers.sv = s.sv ∧ s.agePeers.ru = s.ru ∧ s.agePeers.cb = s.cb ∧
      s.agePeers.rbc = s.rbc ∧ s.agePeers.rp = s.rp := by
  refine ⟨?_, ?_, ?_, ?_, ?_, ?_, ?_, ?_, ?_, ?_⟩ <;> simp [State.agePeers]

@[simp] theorem State.setSkipped_frame (s : State) (k : AnnounceKind) (v : Bool) :
    (s.setSkipped k v).now = s.now ∧ (s.setSkipped k v).pending = s.pending ∧
      (s.setSkipped k v).freeCount = s.freeCount ∧ (s.setSkipped k v).sl = s.sl ∧ (s.setSkipped k v).au = s.au ∧
      (s.setSkipped k v).sv = s.sv ∧ (s.setSkipped k v).ru = s.ru ∧ (s.setSkipped k v).cb = s.cb ∧
      (s.setSkipped k v).rbc = s.rbc ∧ (s.setSkipped k v).rp = s.rp := by
  refine ⟨?_, ?_, ?_, ?_, ?_, ?_, ?_, ?_, ?_, ?_⟩ <;> simp [State.setSkipped]

@[simp] theorem State.disarm_frame (s : State) (k : AnnounceKind) :
    (s.disarm k).now = s.now ∧ (s.disarm k).pending = s.pending ∧ (s.disarm k).freeCount = s.freeCount ∧
      (s.disarm k).sl = s.sl ∧ (s.disarm k).au = s.au ∧ (s.disarm k).sv = s.sv ∧ (s.disarm k).ru = s.ru ∧
      (s.disarm k).cb = s.cb ∧ (s.disarm k).rbc = s.rbc ∧ (s.disarm k).rp = s.rp := by
  refine ⟨?_, ?_, ?_, ?_, ?_, ?_, ?_, ?_, ?_, ?_⟩ <;> simp [State.disarm]

@[simp] theorem State.takeSnapshot_frame (s : State) :
    s.takeSnapshot.now = s.now ∧ s.takeSnapshot.pending = s.pending ∧ s.takeSnapshot.freeCount = s.freeCount ∧
      s.takeSnapshot.sl = s.sl ∧ s.takeSnapshot.au = s.au ∧ s.takeSnapshot.sv = s.sv ∧ s.takeSnapshot.ru = s.ru ∧
      s.takeSnapshot.anu = s.anu ∧ s.takeSnapshot.rbc = s.rbc ∧ s.takeSnapshot.rp = s.rp := by
  refine ⟨?_, ?_, ?_, ?_, ?_, ?_, ?_, ?_, ?_, ?_⟩ <;> simp [State.takeSnapshot]

@[simp] theorem State.periodicTurn_frame (s : State) (k : AnnounceKind) :
    (s.periodicTurn k).now = s.now ∧ (s.periodicTurn k).pending = s.pending ∧
      (s.periodicTurn k).freeCount = s.freeCount ∧ (s.periodicTurn k).sl = s.sl ∧ (s.periodicTurn k).au = s.au ∧
      (s.periodicTurn k).ru = s.ru := by
  refine ⟨?_, ?_, ?_, ?_, ?_, ?_⟩ <;>
    (simp only [State.periodicTurn]; (repeat' split) <;> simp)

@[simp] theorem State.bestEffortTurn_frame (s : State) (k : AnnounceKind) :
    (s.bestEffortTurn k).now = s.now ∧ (s.bestEffortTurn k).pending = s.pending ∧
      (s.bestEffortTurn k).freeCount = s.freeCount ∧ (s.bestEffortTurn k).sl = s.sl ∧ (s.bestEffortTurn k).au = s.au ∧
      (s.bestEffortTurn k).ru = s.ru := by
  refine ⟨?_, ?_, ?_, ?_, ?_, ?_⟩ <;>
    (simp only [State.bestEffortTurn]; (repeat' split) <;> simp)

@[simp] theorem State.modeTurn_frame (s : State) (k : AnnounceKind) (m : AnnounceMode) :
    (s.modeTurn k m).now = s.now ∧ (s.modeTurn k m).pending = s.pending ∧ (s.modeTurn k m).freeCount = s.freeCount ∧
      (s.modeTurn k m).sl = s.sl ∧ (s.modeTurn k m).au = s.au ∧ (s.modeTurn k m).ru = s.ru := by
  refine ⟨?_, ?_, ?_, ?_, ?_, ?_⟩ <;>
    (simp only [State.modeTurn]; (repeat' split) <;> simp)

@[simp] theorem State.refreshContent_frame (s : State) (k : AnnounceKind) :
    (s.refreshContent k).now = s.now ∧ (s.refreshContent k).pending = s.pending ∧
      (s.refreshContent k).freeCount = s.freeCount ∧ (s.refreshContent k).sl = s.sl ∧ (s.refreshContent k).au = s.au ∧
      (s.refreshContent k).sv = s.sv ∧ (s.refreshContent k).ru = s.ru ∧ (s.refreshContent k).anu = s.anu ∧
      (s.refreshContent k).rbc = s.rbc ∧ (s.refreshContent k).rp = s.rp := by
  refine ⟨?_, ?_, ?_, ?_, ?_, ?_, ?_, ?_, ?_, ?_⟩ <;>
    (simp only [State.refreshContent]; (repeat' split) <;> simp)

@[simp] theorem State.onceTurn_frame (s : State) (k : AnnounceKind) :
    (s.onceTurn k).now = s.now ∧ (s.onceTurn k).pending = s.pending ∧ (s.onceTurn k).freeCount = s.freeCount ∧
      (s.onceTurn k).sl = s.sl ∧ (s.onceTurn k).au = s.au ∧ (s.onceTurn k).ru = s.ru := by
  refine ⟨?_, ?_, ?_, ?_, ?_, ?_⟩ <;>
    (simp only [State.onceTurn]; (repeat' split) <;> simp)

@[simp] theorem State.sendNotice_frame (s : State) (n : Notice) :
    (s.sendNotice n).now = s.now ∧ (s.sendNotice n).pending = s.pending ∧ (s.sendNotice n).freeCount = s.freeCount ∧
      (s.sendNotice n).sl = s.sl ∧ (s.sendNotice n).au = s.au ∧ (s.sendNotice n).ru = s.ru := by
  refine ⟨?_, ?_, ?_, ?_, ?_, ?_⟩ <;>
    (simp only [State.sendNotice]; (repeat' split) <;> simp)

@[simp] theorem State.sendNotices_frame (s : State) :
    s.sendNotices.now = s.now ∧ s.sendNotices.pending = s.pending ∧ s.sendNotices.freeCount = s.freeCount ∧
      s.sendNotices.sl = s.sl ∧ s.sendNotices.au = s.au ∧ s.sendNotices.ru = s.ru := by
  refine ⟨?_, ?_, ?_, ?_, ?_, ?_⟩
  · simp only [State.sendNotices]; rw [foldl_frame State.now (fun _ _ => by simp)]
  · simp only [State.sendNotices]; rw [foldl_frame State.pending (fun _ _ => by simp)]
  · simp only [State.sendNotices]; rw [foldl_frame State.freeCount (fun _ _ => by simp)]
  · simp only [State.sendNotices]; rw [foldl_frame State.sl (fun _ _ => by simp)]
  · simp only [State.sendNotices]; rw [foldl_frame State.au (fun _ _ => by simp)]
  · simp only [State.sendNotices]; rw [foldl_frame State.ru (fun _ _ => by simp)]

@[simp] theorem State.announce_frame (s : State) :
    s.announce.now = s.now ∧ s.announce.pending = s.pending ∧ s.announce.freeCount = s.freeCount ∧ s.announce.sl = s.sl ∧
      s.announce.au = s.au ∧ s.announce.ru = s.ru := by
  refine ⟨?_, ?_, ?_, ?_, ?_, ?_⟩ <;>
    (simp only [State.announce]; (repeat' split) <;> simp)

@[simp] theorem State.awayCheck_frame (s : State) :
    s.awayCheck.now = s.now ∧ s.awayCheck.pending = s.pending ∧ s.awayCheck.freeCount = s.freeCount ∧
      s.awayCheck.sl = s.sl ∧ s.awayCheck.au = s.au ∧ s.awayCheck.ru = s.ru ∧ s.awayCheck.anu = s.anu ∧
      s.awayCheck.cb = s.cb ∧ s.awayCheck.rbc = s.rbc ∧ s.awayCheck.rp = s.rp := by
  refine ⟨?_, ?_, ?_, ?_, ?_, ?_, ?_, ?_, ?_, ?_⟩ <;> simp [State.awayCheck]

@[simp] theorem State.countListening_frame (s : State) :
    s.countListening.now = s.now ∧ s.countListening.pending = s.pending ∧ s.countListening.freeCount = s.freeCount ∧
      s.countListening.au = s.au ∧ s.countListening.sv = s.sv ∧ s.countListening.ru = s.ru ∧
      s.countListening.anu = s.anu ∧ s.countListening.cb = s.cb ∧ s.countListening.rbc = s.rbc ∧
      s.countListening.rp = s.rp := by
  refine ⟨?_, ?_, ?_, ?_, ?_, ?_, ?_, ?_, ?_, ?_⟩ <;>
    (simp only [State.countListening]; (repeat' split) <;> simp)

@[simp] theorem State.boundary_frame (s : State) (d : Time) :
    (s.boundary d).now = s.now ∧ (s.boundary d).pending = s.pending ∧ (s.boundary d).freeCount = s.freeCount ∧
      (s.boundary d).au = s.au ∧ (s.boundary d).ru = s.ru := by
  refine ⟨?_, ?_, ?_, ?_, ?_⟩ <;> simp [State.boundary]

/-! ## StartUp.lean -/

@[simp] theorem State.applyParams_frame (s : State) (p : Params) :
    (s.applyParams p).now = s.now ∧ (s.applyParams p).pending = s.pending ∧ (s.applyParams p).freeCount = s.freeCount ∧
      (s.applyParams p).au = s.au ∧ (s.applyParams p).ru = s.ru ∧ (s.applyParams p).rbc = s.rbc ∧
      (s.applyParams p).rp = s.rp := by
  refine ⟨?_, ?_, ?_, ?_, ?_, ?_, ?_⟩ <;> simp [State.applyParams]

@[simp] theorem State.enterListening_frame (s : State) (p : Option Params) :
    (s.enterListening p).now = s.now ∧ (s.enterListening p).pending = s.pending ∧
      (s.enterListening p).freeCount = s.freeCount ∧ (s.enterListening p).au = s.au ∧ (s.enterListening p).ru = s.ru := by
  refine ⟨?_, ?_, ?_, ?_, ?_⟩ <;>
    (simp only [State.enterListening]; (repeat' split) <;> simp)

@[simp] theorem State.enterSilent_frame (s : State) :
    s.enterSilent.now = s.now ∧ s.enterSilent.pending = s.pending ∧ s.enterSilent.freeCount = s.freeCount ∧
      s.enterSilent.au = s.au ∧ s.enterSilent.ru = s.ru ∧ s.enterSilent.rbc = s.rbc ∧ s.enterSilent.rp = s.rp := by
  refine ⟨?_, ?_, ?_, ?_, ?_, ?_, ?_⟩ <;> simp [State.enterSilent]

@[simp] theorem State.readStrap_frame (s : State) (strap : BitVec 5) :
    (s.readStrap strap).now = s.now ∧ (s.readStrap strap).pending = s.pending ∧
      (s.readStrap strap).freeCount = s.freeCount ∧ (s.readStrap strap).au = s.au ∧ (s.readStrap strap).ru = s.ru ∧
      (s.readStrap strap).rbc = s.rbc ∧ (s.readStrap strap).rp = s.rp := by
  refine ⟨?_, ?_, ?_, ?_, ?_, ?_, ?_⟩ <;>
    (simp only [State.readStrap]; (repeat' split) <;> simp)

@[simp] theorem State.powerOn_frame (s : State) (q : Option Time) (r : Bool) :
    (s.powerOn q r).now = s.now ∧ (s.powerOn q r).pending = s.pending ∧ (s.powerOn q r).freeCount = s.freeCount :=  ⟨rfl, rfl, rfl⟩

end Sys2Proof.Machine
end

