-- ==== Sys2Proof/Laws/Parts.lean ====
section
/-! SUPPORT. What the queues give a command, and what the shared operations do to the parts they touch: one lemma for each. -/

namespace Sys2Proof.Machine

/-! ## Time -/

@[simp] theorem State.elapse_oldestFor (s : State) (dt : Time) (b : Block) : (s.elapse dt).oldestFor b = s.oldestFor b := rfl

@[simp] theorem State.elapse_findEntry (s : State) (dt : Time) (c : ClientId) : (s.elapse dt).findEntry c = s.findEntry c := rfl

@[simp] theorem State.elapse_findSighting (s : State) (dt : Time) (c : ClientId) :
    (s.elapse dt).findSighting c = s.findSighting c := rfl

@[simp] theorem State.elapse_findStream (s : State) (dt : Time) (i : StreamId) :
    (s.elapse dt).findStream i = s.findStream i := rfl

@[simp] theorem State.elapse_findSeat (s : State) (dt : Time) (n : Seat) : (s.elapse dt).findSeat n = s.findSeat n := rfl

@[simp] theorem State.elapse_findPending (s : State) (dt : Time) (c : ClientId) (n : Serial) :
    (s.elapse dt).findPending c n = s.findPending c n := rfl

@[simp] theorem State.elapse_findAuthority (s : State) (dt : Time) (n : Seat) :
    (s.elapse dt).findAuthority n = s.findAuthority n := rfl

/-! ## Taking a frame or a record -/

@[simp] theorem State.released_frame (s : State) (b : Block) :
    (s.released b).now = s.now ∧ (s.released b).pending = s.pending ∧ (s.released b).freeCount = s.freeCount ∧
      (s.released b).sl = s.sl ∧ (s.released b).au = s.au ∧ (s.released b).sv = s.sv ∧ (s.released b).ru = s.ru ∧
      (s.released b).anu = s.anu ∧ (s.released b).cb = s.cb ∧ (s.released b).rp = s.rp :=
  ⟨rfl, rfl, rfl, rfl, rfl, rfl, rfl, rfl, rfl, rfl⟩

@[simp] theorem State.recordTaken_frame (s : State) :
    s.recordTaken.now = s.now ∧ s.recordTaken.pending = s.pending ∧ s.recordTaken.freeCount = s.freeCount ∧
      s.recordTaken.sl = s.sl ∧ s.recordTaken.au = s.au ∧ s.recordTaken.sv = s.sv ∧ s.recordTaken.ru = s.ru ∧
      s.recordTaken.anu = s.anu ∧ s.recordTaken.cb = s.cb ∧ s.recordTaken.rbc = s.rbc :=
  ⟨rfl, rfl, rfl, rfl, rfl, rfl, rfl, rfl, rfl, rfl⟩

/-- A block that accepts its oldest stored frame gets it, and the queue loses that frame. -/
theorem State.takeFrame_of_oldest {s : State} {b : Block} {f : RxFrame} {p : RxFrame → Bool} (h : s.oldestFor b = some f)
    (hp : p f = true) : s.takeFrame b p = some (f, s.released b) := by
  unfold State.oldestFor at h
  simp [State.takeFrame, h, hp, State.released]

/-- What a block takes is its oldest stored frame, and it accepted it. -/
theorem State.takeFrame_inv {s t : State} {b : Block} {f : RxFrame} {p : RxFrame → Bool}
    (h : s.takeFrame b p = some (f, t)) : s.oldestFor b = some f ∧ p f = true ∧ t = s.released b := by
  unfold State.takeFrame at h
  split at h
  · split at h
    · cases h; exact ⟨‹_›, ‹_›, rfl⟩
    · cases h
  · cases h

/-- The Radio Port that accepts its oldest record gets it, and the queue loses that record. -/
theorem State.takeUplink_of_oldest {s : State} {r : UplinkRecord} {p : UplinkBody → Bool} (h : s.rp.uplink.head? = some r)
    (hp : p r.body = true) : s.takeUplink p = some (r, s.recordTaken) := by
  obtain ⟨rest, hr⟩ : ∃ rest, s.rp.uplink = r :: rest := by
    cases hu : s.rp.uplink with
    | nil => simp [hu] at h
    | cons x xs => simp [hu] at h; exact ⟨xs, by rw [h]⟩
  simp [State.takeUplink, hr, hp, State.recordTaken]

/-- What the Radio Port takes is its oldest record, and it accepted it. -/
theorem State.takeUplink_inv {s t : State} {r : UplinkRecord} {p : UplinkBody → Bool}
    (h : s.takeUplink p = some (r, t)) : s.rp.uplink.head? = some r ∧ p r.body = true ∧ t = s.recordTaken := by
  unfold State.takeUplink at h
  split at h
  · split at h
    · cases h; simp_all [State.recordTaken]
    · cases h
  · cases h

/-! ## All that the shared operations can do -/

/-- An increment of a masked counter is nothing; of an unmasked one it is the counter's bump, with or without arming the harvest. -/
theorem State.count_cases (s : State) (k : CounterId) :
    let t := s.setCb { s.cb with counters := s.cb.counters.set k.index.val (s.counter k).bump k.index.isLt }
    (s.masked k = true ∧ s.count k = s) ∨
      (s.masked k = false ∧ harvestThreshold ≤ (s.counter k).bump.value ∧ s.count k = t.armHarvest) ∨
        (s.masked k = false ∧ (s.counter k).bump.value < harvestThreshold ∧ s.count k = t) := by
  simp only [State.count]
  by_cases hm : s.masked k = true
  · exact .inl ⟨hm, by simp [hm]⟩
  · by_cases ht : harvestThreshold ≤ (s.counter k).bump.value
    · exact .inr (.inl ⟨by simpa using hm, ht, by simp [hm, ht]⟩)
    · exact .inr (.inr ⟨by simpa using hm, by omega, by simp [hm, ht]⟩)

/-- A transfer starts, or nothing happens. -/
theorem State.startTransfer_cases (s : State) :
    s.startTransfer = s ∨
      ∃ r rest, s.rp.transfer = .idle ∧ s.rp.ready = true ∧ s.rp.downlink = r :: rest ∧
        s.startTransfer = s.setRp { s.rp with transfer := .sending r.bytes } := by
  unfold State.startTransfer
  split
  · exact .inr ⟨_, _, by assumption, by assumption, by assumption, rfl⟩
  · exact .inl rfl

/-- A frame handed over is discarded by a node that does not transmit, accepted, accepted for an evicted one, or refused. -/
theorem State.handOver_cases (s : State) (f : TxFrame) :
    (s.sl.nodeState = .silent ∨ s.sl.nodeState = .starting) ∧ s.handOver f = (s, false) ∨
      s.txCount < txPlaces ∧ s.handOver f = (s.acceptFrame f, true) ∨
        (∃ front old, txPlaces ≤ s.txCount ∧ f.urgent = true ∧ s.rbc.txNormal = front ++ [old] ∧
          s.handOver f = ((s.evict old).acceptFrame f, true)) ∨
          (txPlaces ≤ s.txCount ∧ (f.urgent = false ∨ s.rbc.txNormal = []) ∧
            s.handOver f = ((s.count .txLost).reportRefusal f, false)) := by
  by_cases hn : s.sl.nodeState = .silent ∨ s.sl.nodeState = .starting
  · exact .inl ⟨hn, by simp [State.handOver, hn]⟩
  by_cases hc : s.txCount < txPlaces
  · exact .inr (.inl ⟨hc, by simp [State.handOver, hn, hc]⟩)
  have hc' : txPlaces ≤ s.txCount := by omega
  rcases List.eq_nil_or_concat s.rbc.txNormal with he | ⟨front, old, he⟩
  · exact .inr (.inr (.inr ⟨hc', .inr he, by simp [State.handOver, hn, hc, he]⟩))
  · cases hu : f.urgent with
    | false => exact .inr (.inr (.inr ⟨hc', .inl rfl, by simp [State.handOver, hn, hc, hu]⟩))
    | true =>
      refine .inr (.inr (.inl ⟨front, old, hc', rfl, by simpa using he, ?_⟩))
      simp [State.handOver, hn, hc, hu, he]

/-- An accepted frame is in hand, alone or in place of a NORMAL one that then waits first, or waits last of its class. -/
theorem State.acceptFrame_cases (s : State) (f : TxFrame) :
    let u := s.reportAccepted f
    (u.rbc.tx = .idle ∧ s.acceptFrame f = u.setRbc { u.rbc with tx := .defer f 0 u.now }) ∨
      (∃ g since, u.rbc.tx = .defer g 0 since ∧ f.urgent = true ∧ g.urgent = false ∧
        let t := u.setRbc { u.rbc with tx := .defer f 0 since, txNormal := g :: u.rbc.txNormal }
        s.acceptFrame f = if t.deferralRun then t.startSending else t) ∨
        (u.rbc.tx ≠ .idle ∧ s.acceptFrame f = u.wait f) := by
  simp only [State.acceptFrame]
  split
  · exact .inl ⟨by assumption, rfl⟩
  · rename_i g since h
    by_cases hc : (f.urgent && !g.urgent) = true
    · refine .inr (.inl ⟨g, since, h, by simp_all, by simp_all, by simp [hc]⟩)
    · exact .inr (.inr ⟨(by rw [h]; exact nofun), by simp [hc]⟩)
  · rename_i h _
    exact .inr (.inr ⟨h, rfl⟩)

end Sys2Proof.Machine
end

