-- ==== Sys2Proof/Laws/Lists.lean ====
section
/-! SUPPORT. The keyed lists of the node: what insertion, ordering and the choice of the lowest give, and what a lookup finds after
a change. -/

namespace Sys2Proof.Machine

section
variable {α κ : Type}

/-! ## putBy: insertion by key -/

theorem mem_putBy {key : α → Nat} {x y : α} {l : List α} (h : y ∈ putBy key x l) : y = x ∨ y ∈ l := by
  induction l with
  | nil => simpa [putBy] using h
  | cons z zs ih =>
    simp only [putBy] at h
    split at h
    · simpa using h
    · split at h
      · rcases List.mem_cons.mp h with rfl | h
        · exact .inl rfl
        · exact .inr (List.mem_cons_of_mem _ h)
      · rcases List.mem_cons.mp h with rfl | h
        · exact .inr List.mem_cons_self
        · exact (ih h).imp_right (List.mem_cons_of_mem _)

theorem mem_putBy_self (key : α → Nat) (x : α) (l : List α) : x ∈ putBy key x l := by
  induction l with
  | nil => simp [putBy]
  | cons z zs ih =>
    simp only [putBy]
    split
    · simp
    · split
      · simp
      · exact List.mem_cons_of_mem _ ih

theorem mem_putBy_of_ne {key : α → Nat} {x y : α} {l : List α} (h : y ∈ l) (hne : key y ≠ key x) : y ∈ putBy key x l := by
  induction l with
  | nil => cases h
  | cons z zs ih =>
    simp only [putBy]
    split
    · exact List.mem_cons_of_mem _ h
    · split
      · rename_i _ he
        rcases List.mem_cons.mp h with rfl | h
        · exact absurd he.symm hne
        · exact List.mem_cons_of_mem _ h
      · rcases List.mem_cons.mp h with rfl | h
        · exact List.mem_cons_self
        · exact List.mem_cons_of_mem _ (ih h)

/-- Insertion keeps the rising order of keys. -/
theorem putBy_sorted {key : α → Nat} (x : α) {l : List α} (h : (l.map key).Pairwise (· < ·)) :
    ((putBy key x l).map key).Pairwise (· < ·) := by
  induction l with
  | nil => simp [putBy]
  | cons z zs ih =>
    simp only [List.map_cons, List.pairwise_cons, List.mem_map, forall_exists_index, and_imp, forall_apply_eq_imp_iff₂] at h
    simp only [putBy]
    split
    · simp only [List.map_cons, List.pairwise_cons, List.mem_cons, List.mem_map]
      refine ⟨?_, ?_, h.2⟩
      · rintro k (rfl | ⟨a, ha, rfl⟩)
        · assumption
        · have := h.1 a ha; omega
      · rintro k ⟨a, ha, rfl⟩
        exact h.1 a ha
    · split
      · simp only [List.map_cons, List.pairwise_cons, List.mem_map]
        refine ⟨?_, h.2⟩
        rintro k ⟨a, ha, rfl⟩
        have := h.1 a ha; omega
      · simp only [List.map_cons, List.pairwise_cons, List.mem_map]
        refine ⟨?_, ih h.2⟩
        rintro k ⟨a, ha, rfl⟩
        rcases mem_putBy ha with rfl | ha
        · omega
        · exact h.1 a ha

/-- A new key makes the list one longer. -/
theorem putBy_length_new {key : α → Nat} {x : α} {l : List α} (h : ∀ y ∈ l, key y ≠ key x) :
    (putBy key x l).length = l.length + 1 := by
  induction l with
  | nil => simp [putBy]
  | cons z zs ih =>
    simp only [putBy]
    split
    · simp
    · rw [if_neg (fun he => h z List.mem_cons_self he.symm)]
      simp [ih (fun y hy => h y (List.mem_cons_of_mem _ hy))]

/-- A lookup of the key that was put finds the new item, if none in the list stands for that key before its place. -/
theorem find_putBy_self {key : α → Nat} {x : α} {p : α → Bool} {l : List α} (hx : p x = true)
    (h : ∀ y ∈ l, p y = true → key y = key x) (hs : (l.map key).Pairwise (· < ·)) : (putBy key x l).find? p = some x := by
  induction l with
  | nil => simp [putBy, hx]
  | cons z zs ih =>
    simp only [List.map_cons, List.pairwise_cons] at hs
    simp only [putBy]
    split
    · simp [hx]
    · split
      · simp [hx]
      · have hz : p z = false := by
          by_contra hp
          rename_i _ hne
          exact hne (h z List.mem_cons_self (by simpa using hp)).symm
        rw [List.find?_cons_of_neg (by simp [hz])]
        exact ih (fun y hy => h y (List.mem_cons_of_mem _ hy)) hs.2

/-- A lookup that accepts neither the new item nor one with its key finds what it found. -/
theorem find_putBy_other {key : α → Nat} {x : α} {p : α → Bool} {l : List α} (hx : p x = false)
    (h : ∀ y ∈ l, key y = key x → p y = false) : (putBy key x l).find? p = l.find? p := by
  induction l with
  | nil => simp [putBy, hx]
  | cons z zs ih =>
    simp only [putBy]
    split
    · simp [hx]
    · split
      · rename_i _ he
        simp [hx, h z List.mem_cons_self he.symm]
      · simp only [List.find?_cons]
        rw [ih (fun y hy => h y (List.mem_cons_of_mem _ hy))]

/-! ## placeBy and sortBy: order by rank -/

theorem placeBy_perm (rank : α → Nat) (x : α) (l : List α) : (placeBy rank x l).Perm (x :: l) := by
  induction l with
  | nil => exact .refl _
  | cons z zs ih =>
    simp only [placeBy]
    split
    · exact .refl _
    · exact (ih.cons z).trans (.swap x z zs)

theorem placeBy_sorted {rank : α → Nat} {x : α} {l : List α} (h : l.Pairwise (fun a b => rank a ≤ rank b)) :
    (placeBy rank x l).Pairwise (fun a b => rank a ≤ rank b) := by
  induction l with
  | nil => simp [placeBy]
  | cons z zs ih =>
    obtain ⟨hz, hs⟩ := List.pairwise_cons.mp h
    simp only [placeBy]
    split
    · rename_i hr
      refine List.pairwise_cons.mpr ⟨fun b hb => ?_, h⟩
      rcases List.mem_cons.mp hb with rfl | hb
      · exact hr
      · exact hr.trans (hz b hb)
    · refine List.pairwise_cons.mpr ⟨fun b hb => ?_, ih hs⟩
      rcases List.mem_cons.mp ((placeBy_perm rank x zs).mem_iff.mp hb) with rfl | hb
      · omega
      · exact hz b hb

theorem sortBy_perm (rank : α → Nat) (l : List α) : (sortBy rank l).Perm l := by
  induction l with
  | nil => exact .refl _
  | cons x xs ih => exact (placeBy_perm rank x _).trans (ih.cons x)

theorem sortBy_sorted (rank : α → Nat) (l : List α) : (sortBy rank l).Pairwise (fun a b => rank a ≤ rank b) := by
  induction l with
  | nil => exact .nil
  | cons x xs ih => exact placeBy_sorted ih

/-! ## minBy: the lowest rank -/

theorem minBy_eq_none {rank : α → Nat} {l : List α} : minBy rank l = none ↔ l = [] := by
  cases l with
  | nil => simp [minBy]
  | cons x xs =>
    simp only [minBy, reduceCtorEq, iff_false]
    split
    · simp
    · split <;> simp

/-- The item found is in the list, and no item ranks below it. -/
theorem minBy_spec {rank : α → Nat} {l : List α} {x : α} (h : minBy rank l = some x) :
    x ∈ l ∧ ∀ y ∈ l, rank x ≤ rank y := by
  induction l generalizing x with
  | nil => simp [minBy] at h
  | cons z zs ih =>
    simp only [minBy] at h
    split at h
    · rename_i hn
      cases h
      simp [minBy_eq_none.mp hn]
    · rename_i y hy
      obtain ⟨hm, hl⟩ := ih hy
      split at h
      · cases h
        refine ⟨List.mem_cons_self, fun w hw => ?_⟩
        rcases List.mem_cons.mp hw with rfl | hw
        · exact le_rfl
        · have := hl w hw; omega
      · cases h
        refine ⟨List.mem_cons_of_mem _ hm, fun w hw => ?_⟩
        rcases List.mem_cons.mp hw with rfl | hw
        · omega
        · exact hl w hw

/-! ## Lookups after a change to the items with one key -/

theorem find_change_self [BEq κ] [LawfulBEq κ] {key : α → κ} {f : α → α} (hf : ∀ x, key (f x) = key x) (k : κ) (l : List α) :
    (l.map (fun x => if key x == k then f x else x)).find? (fun x => key x == k) =
      (l.find? (fun x => key x == k)).map f := by
  induction l with
  | nil => rfl
  | cons x xs ih =>
    by_cases hx : (key x == k) = true
    · simp [hx, hf]
    · simp [hx, ih]

theorem find_change_other [BEq κ] [LawfulBEq κ] {key : α → κ} {f : α → α} (hf : ∀ x, key (f x) = key x) {k d : κ} (h : d ≠ k)
    (l : List α) :
    (l.map (fun x => if key x == k then f x else x)).find? (fun x => key x == d) = l.find? (fun x => key x == d) := by
  induction l with
  | nil => rfl
  | cons x xs ih =>
    by_cases hx : key x = k
    · subst hx
      simp [hf, Ne.symm h, ih]
    · simp only [List.map_cons, beq_iff_eq, hx, if_false, List.find?_cons]
      split
      · rfl
      · simpa using ih

theorem find_erase_self [BEq κ] [LawfulBEq κ] (key : α → κ) (k : κ) (l : List α) :
    (l.filter (fun x => key x != k)).find? (fun x => key x == k) = none := by
  simp [List.find?_eq_none]

theorem find_erase_other [BEq κ] [LawfulBEq κ] (key : α → κ) {k d : κ} (h : d ≠ k) (l : List α) :
    (l.filter (fun x => key x != k)).find? (fun x => key x == d) = l.find? (fun x => key x == d) := by
  induction l with
  | nil => rfl
  | cons x xs ih =>
    by_cases hx : key x = k
    · subst hx
      simp [Ne.symm h, ih]
    · simp only [bne_iff_ne, ne_eq, hx, not_false_eq_true, List.filter_cons_of_pos, List.find?_cons]
      split
      · rfl
      · exact ih

end

/-! ## The node's tables -/

theorem State.findEntry_updateEntry_self (s : State) (c : ClientId) {f : ClientEntry → ClientEntry} (hf : ∀ e, (f e).id = e.id) :
    (s.updateEntry c f).findEntry c = (s.findEntry c).map f := find_change_self hf c s.au.clients

theorem State.findEntry_updateEntry_other (s : State) {c d : ClientId} {f : ClientEntry → ClientEntry}
    (hf : ∀ e, (f e).id = e.id) (h : d ≠ c) : (s.updateEntry c f).findEntry d = s.findEntry d :=
  find_change_other hf h s.au.clients

theorem State.findSighting_updateSighting_self (s : State) (c : ClientId) {f : Sighting → Sighting}
    (hf : ∀ g, (f g).id = g.id) : (s.updateSighting c f).findSighting c = (s.findSighting c).map f :=
  find_change_self hf c s.au.sightings

theorem State.findSighting_updateSighting_other (s : State) {c d : ClientId} {f : Sighting → Sighting}
    (hf : ∀ g, (f g).id = g.id) (h : d ≠ c) : (s.updateSighting c f).findSighting d = s.findSighting d :=
  find_change_other hf h s.au.sightings

theorem State.findSighting_eraseSighting_self (s : State) (c : ClientId) : (s.eraseSighting c).findSighting c = none :=
  find_erase_self (fun g : Sighting => g.id) c s.au.sightings

theorem State.findSighting_eraseSighting_other (s : State) {c d : ClientId} (h : d ≠ c) :
    (s.eraseSighting c).findSighting d = s.findSighting d := find_erase_other (fun g : Sighting => g.id) h s.au.sightings

theorem State.findStream_updateStream_self (s : State) (i : StreamId) {f : StreamEntry → StreamEntry}
    (hf : ∀ e, (f e).id = e.id) : (s.updateStream i f).findStream i = (s.findStream i).map f :=
  find_change_self hf i s.ru.catalogue

theorem State.findStream_updateStream_other (s : State) {i j : StreamId} {f : StreamEntry → StreamEntry}
    (hf : ∀ e, (f e).id = e.id) (h : j ≠ i) : (s.updateStream i f).findStream j = s.findStream j :=
  find_change_other hf h s.ru.catalogue

theorem State.findSeat_updateSeat_self (s : State) (n : Seat) {f : SeatRecord → SeatRecord}
    (hf : ∀ r, (f r).number = r.number) : (s.updateSeat n f).findSeat n = (s.findSeat n).map f :=
  find_change_self hf n s.sv.seats

theorem State.findSeat_updateSeat_other (s : State) {n m : Seat} {f : SeatRecord → SeatRecord}
    (hf : ∀ r, (f r).number = r.number) (h : m ≠ n) : (s.updateSeat n f).findSeat m = s.findSeat m :=
  find_change_other hf h s.sv.seats

/-- Removing an entry leaves no entry for its client. -/
theorem State.findEntry_removeEntry_self (s : State) (c : ClientId) : (s.removeEntry c).findEntry c = none := by
  have hc : (s.removeEntry c).au.clients = s.au.clients.filter (fun e => e.id != c) ∨
      (s.findEntry c = none ∧ s.removeEntry c = s) := by
    unfold State.removeEntry
    split
    · rename_i h
      exact .inr ⟨h, rfl⟩
    · left
      split
      · rw [foldl_frame (·.au) (fun s x => by simp)]
        simp
      · simp
  rcases hc with hc | ⟨hn, he⟩
  · unfold State.findEntry
    rw [hc]
    exact find_erase_self (fun e : ClientEntry => e.id) c s.au.clients
  · rw [he, hn]

end Sys2Proof.Machine
end

