-- ==== Sys2Proof/WellFormed.lean ====
section
/-! DEFINITION. Which commands are well-formed: the operand ranges the manual gives. A command that is not well-formed
names no event of the node (the client ID 0 is not a client, a serial 0 is invalid, seats are 1..999, the station record
is bytes 0..32 of the serial memory). exec is total all the same. -/

namespace Sys2Proof

/-- A client ID that names a client (00_scope.md, Terms: "the value 0 is not a client"). -/
def wellFormedClient (c : ClientId) : Bool := c != 0

/-- A ticket serial that a token can carry (R64). -/
def wellFormedSerial (n : Serial) : Bool := n != 0

/-- A seat number (R73). -/
def wellFormedSeat (n : Seat) : Bool := decide (1 ≤ n ∧ n ≤ 999)

/-- A whole station record: bytes 0..32 (13.6). -/
def wellFormedRecord (r : List Byte) : Bool := r.length == 33

/-- The command's operands are in the ranges the manual gives. -/
def Instr.wellFormed : Instr → Bool
  | .stationRecordReadDone _ r => wellFormedRecord r
  | .inactivityExpiry _ c | .sightingExpiry _ c | .backoffExpiry _ c | .claimTimerExpiry _ c
  | .roamInTimerExpiry _ c | .grantTimerExpiry _ c | .holdDownExpiry _ c | .contextWaitExpiry _ c => wellFormedClient c
  | .pendingTokenTimerExpiry _ c n => wellFormedClient c && wellFormedSerial n
  | .seatHoldExpiry _ n | .authorityTimerExpiry _ n => wellFormedSeat n
  | .powerOnReset _ _ | .resetPin _ _ | .stationRecordReadTimeout _ | .announcementPeriodBoundary _
  | .uplinkRecordArrival _ _ | .heard _ | .joinRequest _ | .leave _ | .capsPiece _ | .subscribeOn _ | .subscribeOff _
  | .token _ | .roamClaim _ | .roamGrant _ | .roamDeny _ | .roamReturn _ | .clientMoved _ | .contextReply _
  | .tokenForward _ | .tokenResult _ | .seatReleased _ | .authorityAnswerKeep _ | .authorityAnswerReplace _
  | .authorityAnswerBlock _ | .authorityAnswerUnblock _ | .matchStateOpen _ | .matchStateClosed _ | .blockResetRoam _
  | .blockResetTicket _ | .blockResetReplay _ | .blockResetCounters _ | .streamAnnounceLive _ | .streamAnnounceEnded _
  | .segment _ | .slotStart _ | .cycleEnd _ | .presence _ | .load _ | .harvestRequest _ | .frameReceived _ _ | .lineBusy _
  | .deferralComplete _ | .txCollision _ | .txComplete _ | .radioReady _ | .downlinkTransferComplete _
  | .radioReadyWithdrawn _ => true

end Sys2Proof
end

