-- ==== Sys2Proof/Tests/Slice0.lean ====
section
/-! SUPPORT. Tests: the manual's worked examples, hand-computed vectors, and a witness for every statement with hypotheses. -/

namespace Sys2Proof.Tests

open Sys2Proof Sys2Proof.Machine

-- One theorem at a time: a hundred at once would each take a thread's stack.
set_option Elab.async false

/-! ## Ill-formed commands (WellFormed.lean) -/

theorem test_client_zero_refused :
    (Instr.inactivityExpiry 0 0).wellFormed = false ∧ (Instr.sightingExpiry 0 0).wellFormed = false ∧
      (Instr.backoffExpiry 0 0).wellFormed = false ∧ (Instr.claimTimerExpiry 0 0).wellFormed = false ∧
      (Instr.roamInTimerExpiry 0 0).wellFormed = false ∧ (Instr.grantTimerExpiry 0 0).wellFormed = false ∧
      (Instr.holdDownExpiry 0 0).wellFormed = false ∧ (Instr.contextWaitExpiry 0 0).wellFormed = false ∧
      (Instr.pendingTokenTimerExpiry 0 0 1).wellFormed = false ∧ (Instr.inactivityExpiry 0 1).wellFormed = true := by decide

theorem test_serial_zero_refused :
    (Instr.pendingTokenTimerExpiry 0 1 0).wellFormed = false ∧ (Instr.pendingTokenTimerExpiry 0 1 1).wellFormed = true := by
  decide

theorem test_seat_range_refused :
    (Instr.seatHoldExpiry 0 0).wellFormed = false ∧ (Instr.seatHoldExpiry 0 1000).wellFormed = false ∧
      (Instr.authorityTimerExpiry 0 0).wellFormed = false ∧ (Instr.authorityTimerExpiry 0 1000).wellFormed = false ∧
      (Instr.seatHoldExpiry 0 999).wellFormed = true := by decide

theorem test_short_record_refused :
    (Instr.stationRecordReadDone 0 (List.replicate 32 0)).wellFormed = false ∧
      (Instr.stationRecordReadDone 0 (List.replicate 33 0)).wellFormed = true := by decide

/-! ## The opcode table gives no row any bits -/

theorem test_no_word_spells_a_command : decodeTableWord 32 7 = none ∧ State.reset.withFetchWord 32 7 = State.reset := by decide

/-! ## The two checks, on the usual nine digits (the published check values of the two polynomials) -/

/-- "123456789". -/
def digits : List Byte := [0x31, 0x32, 0x33, 0x34, 0x35, 0x36, 0x37, 0x38, 0x39]

theorem test_crc16 : crc16 0xFFFF#16 digits = 0x29B1#16 := by decide +kernel

theorem test_crc32 : crc32 digits = 0xCBF43926#32 := by decide +kernel

/-- The check goes least significant byte first (R156). -/
theorem test_crc32_bytes : crc32Bytes digits = [0x26, 0x39, 0xF4, 0xCB] := by decide +kernel

/-! ## Signals and scores (sections 2.2, 2.3 and 2.5) -/

/-- The first samples of the table of section 2.5: S = −270 against −66 dBm, then −70 dBm. -/
theorem test_smoothing_table :
    smooth (-270) (-66) = -269 ∧ smooth (-269) (-66) = -268 ∧ smooth (-268) (-66) = -267 ∧ smooth (-267) (-66) = -267 ∧
      smooth (-267) (-70) = -271 := by decide

/-- The clamp of R22 and the first sample of R23. -/
theorem test_clamp : clampRssi (-110) = -100 ∧ clampRssi 0 = -20 ∧ firstSample (-70) = -280 := by decide

/-- The ends of R28. -/
theorem test_score_ends : servingScore (-80) 0 32 true = 1010 ∧ servingScore (-400) 100 48 false = 0 := by decide

/-! ## The occupancy table of R132 -/

theorem test_occupancy_table :
    occupancyOf 70 16 = 55 ∧ occupancyOf 90 16 = 70 ∧ occupancyOf 1 16 = 1 ∧ occupancyOf 3 2 = 19 ∧ occupancyOf 1 2 = 6 ∧
      occupancyOf 256 32 = 100 := by decide

/-! ## LATE (section 6.8: next is 65,534) -/

theorem test_late_table :
    late 65534 2 = false ∧ late 65534 65530 = true ∧ late 65534 32766 = true ∧ late 65534 65533 = true ∧
      late 65534 5 = false ∧ late 65534 32767 = true := by decide

/-! ## Deferral (section 9.5: nodes 7 and 15, offset 7) -/

theorem test_deferral_example :
    deferral false 7 0 = 190 ∧ deferral false 15 1 = 270 ∧ deferral false 7 5 = 590 ∧ deferral true 7 0 = 110 := by decide

/-! ## Length counters (R183) -/

theorem test_buckets :
    lengthBucket 54 = 0 ∧ lengthBucket 55 = 1 ∧ lengthBucket 246 = 1 ∧ lengthBucket 247 = 2 ∧ lengthBucket 1014 = 2 ∧
      lengthBucket 1015 = 3 := by decide

/-! ## The station record (13.6, section 12.7) -/

/-- The body of node A's record: seat block 201..240, P = 40 ms, PRESENCE OFF, LOAD PERIODIC, N = 40. -/
def recordBody : List Byte :=
  [0xD7, 0xA1, 0x01, 0x9C, 0x0B, 0xB9, 0x5A, 0x17, 0x00, 0xC9, 0x00, 0xF0, 40, 0xAB, 0xBF, 64, 0x01, 0xC2, 0x00, 40, 1, 2,
    40, 5, 0, 0, 1, 0x00, 0x78, 0x01, 0x2C]

/-- Node A's record. -/
def recordA : List Byte := recordBody ++ beBytes 2 (crc16 0xFFFF#16 recordBody).toNat

/-- Section 12.7's table of fields as read and applied; counter 0 is masked. -/
theorem test_record_example :
    recordUsable recordA = true ∧
      paramsOf recordA =
        { codes := some { rowCode := 412, matchCode := 3001, matchKey := 0x5A17 }, block := some { first := 201, last := 224 },
          limit := 40, joinFloor := -85, presenceThreshold := -65, margin := 64, claimFloor := 450, periodMs := 50,
          presenceMode := .bestEffort, loadMode := .periodic, slots := 32, slotMs := 5, mask := 1, holdSeconds := 120,
          awaySeconds := 300 } := by decide +kernel

/-! ## Frame bytes written out from 13.2 -/

/-- A ROAM_DENY for client 0x0000000000FF, reason HOLD, score 0x0102. -/
theorem test_deny_payload :
    (Message.roamDeny 0xFF .hold 0x102).payload = [0, 0, 0, 0, 0, 0xFF, 3, 1, 2] ∧
      parseMessage .roamDeny [0, 0, 0, 0, 0, 0xFF, 3, 1, 2] = some (.roamDeny 0xFF .hold 0x102) ∧
      parseMessage .roamDeny [0, 0, 0, 0, 0, 0xFF, 5, 1, 2] = none := by decide +kernel

/-- A PRESENCE of a NODE with block 201..224, admitting. -/
theorem test_presence_payload :
    (Message.presence .node (some { first := 201, last := 224 }) false true).payload = [1, 5, 0, 201, 0, 224] := by
  decide +kernel

/-- A context whose counts do not add up is discarded (R202). -/
theorem test_context_counts : parseContext [0, 1, 0, 7] ≠ none ∧ parseContext [0, 2, 0, 7] = none ∧ parseContext [0, 2, 0, 7, 7] = none := by
  decide +kernel

/-- An uplink HEARD record of client 1 at −70 dBm from cell 5 (13.5). -/
theorem test_uplink_record :
    parseUplink [1, 0, 0, 0, 0, 0, 1, 0xBA, 5] = some { client := 1, rssi := -70, cell := 5, body := .heard } ∧
      parseUplink [1, 0, 0, 0, 0, 0, 0, 0xBA, 5] = none ∧ parseUplink [1, 0, 0, 0, 0, 0, 1, 0xBA, 32] = none ∧
      parseUplink [1, 0, 0, 0, 0, 0, 1, 0xBA] = none := by decide +kernel

/-- A JOIN_REPLY FULL with redirect 9, and one without (13.5). -/
theorem test_downlink_record :
    (Downlink.joinReply 1 .full (some 9)).bytes = [1, 0, 0, 0, 0, 0, 1, 2, 9] ∧
      (Downlink.joinReply 1 .weak none).bytes = [1, 0, 0, 0, 0, 0, 1, 3, 0] := by decide +kernel

/-! ## Small states -/

/-- Parameters of a small node: seats 1..10, three clients, two slots. -/
def par0 : Params :=
  { Params.default with
    codes := some { rowCode := 412, matchCode := 3001, matchKey := 0x5A17 }, block := some { first := 1, last := 10 },
    limit := 3, slots := 2 }

/-- A RUNNING node 5 at time 0, its first boundary at 100 ms. -/
def node : State :=
  { State.reset with
    sl := { StartUp.initial with nodeState := .running, ownAddress := some 5, params := some par0 },
    sv := { SeatValidator.initial with seats := seatTable par0.block },
    anu := { Announcement.initial with nextBoundary := some 1000000 } }

/-- The same node still LISTENING. -/
def listening : State := node.setSl { node.sl with nodeState := .listening }

/-- The same node while it reads its station record. -/
def starting : State := { State.reset with sl := { StartUp.initial with ownAddress := some 5, readStarted := some 0 } }

/-- With this uplink record to take. -/
def up (r : UplinkRecord) (s : State) : State := s.setRp { s.rp with uplink := [r] }

/-- A record of client 1 at −60 dBm. -/
def from1 (cell : Station) (body : UplinkBody) : UplinkRecord := { client := 1, rssi := -60, cell := cell, body := body }

/-- A received frame that carries a message. -/
def frame (source destination : Station) (m : Message) : RxFrame :=
  { destination := destination, source := source, kind := m.kind, payload := m.payload, storedAt := 0 }

/-- With this received frame to take. -/
def rx (source : Station) (m : Message) (s : State) : State := s.setRbc { s.rbc with rxQueue := [frame source 5 m] }

/-- With these clients. -/
def clients (l : List ClientEntry) (s : State) : State := s.setAu { s.au with clients := l }

/-- An entry heard at time 0. -/
def entry (c : ClientId) (st : EntryState) : ClientEntry := ClientEntry.fresh c st (-300) true 0

/-- With these sightings. -/
def sightings (l : List Sighting) (s : State) : State := s.setAu { s.au with sightings := l }

/-- A sighting heard at time 0, to go at 10 s. -/
def sighting (c : ClientId) (status : SightingStatus) : Sighting :=
  { id := c, signal := -240, lastHeard := 0, cell := 9, status := status, removal := 100000000 }

/-- A LIVE node 9 as a peer. -/
def peer9 : PeerEntry :=
  { station := 9, cls := .node, block := some { first := 20, last := 30 },
    load := some { occupancy := 0, entries := 2, limit := 3 }, status := .live, lastFrame := 0, overlap := false }

/-- With node 9 as the one peer. -/
def withPeer (s : State) : State := s.setAnu { s.anu with peers := [peer9] }

/-- With this state of a seat. -/
def seated (n : Seat) (st : SeatState) (s : State) : State := s.updateSeat n (fun r => { r with state := st })

/-- A holder from the own station. -/
def holder (serial : Serial) (c : ClientId) : Holder := { serial := serial, client := c, origin := 5 }

/-- With these streams. -/
def streams (l : List StreamEntry) (s : State) : State := s.setRu { s.ru with catalogue := l }

/-- A stream in an activity with its air group. -/
def stream (i : StreamId) (a : Activity) (group : Option Nat) (subscribers : Nat) : StreamEntry :=
  { StreamEntry.fresh i .low .repeat 0 with activity := a, airGroup := group, subscribers := subscribers }

/-- With a NORMAL frame to node 9 in hand and `waiting` more of its class. -/
def sends (waiting : Nat) (s : State) : State :=
  let f := frameOf 9 (.notice .seatOverlap 9)
  s.setRbc { s.rbc with tx := .defer f 0 0, txNormal := List.replicate waiting f }

/-- A token for a seat, with its check word right. -/
def token (serial : Serial) (seat : Seat) : Token :=
  let t : Token := { serial := serial, matchCode := 3001, rowCode := 412, seat := seat, check := 0 }
  { t with check := tokenCheckWord 0x5A17 t }

/-- What `carries` asks, as a test. -/
theorem carries_of {s : State} {b : Block} {source : Station} {m : Message}
    (h : (s.oldestFor b).any (fun f => f.source == source && f.kind == m.kind && f.message == some m) = true) :
    s.carries b source m := by
  cases hf : s.oldestFor b with
  | none => simp [hf] at h
  | some f =>
    simp only [hf, Option.any_some, Bool.and_eq_true, beq_iff_eq] at h
    exact ⟨f, hf, h.1.1, h.1.2, h.2⟩

/-! ## A witness for every statement with hypotheses: states and operands that meet them, clause by clause -/

theorem witness_StepRunsTheFrontCommand : State.reset.pending = [] := rfl

theorem witness_ResetReadsTheStrap :
    (1 ≤ (1#5).toNat ∧ (1#5).toNat ≤ 29) ∧ (1 ≤ (29#5).toNat ∧ (29#5).toNat ≤ 29) ∧ (0#5).toNat = 0 ∧ (30#5).toNat = 30 ∧
      (31#5).toNat = 31 := by decide

/-- The record read takes exactly 10 ms. -/
theorem witness_UsableRecordStartsListening :
    starting.sl.nodeState = .starting ∧ starting.sl.readStarted = some 0 ∧ starting.now + 100000 ≤ 0 + 100000 ∧
      recordA.length = 33 ∧ fieldAt recordA 0 2 = 0xD7A1 ∧
      crc16 0xFFFF#16 (recordA.take 31) = BitVec.ofNat 16 (fieldAt recordA 31 2) ∧ fieldAt recordA 2 2 ≠ 0 ∧
      starting.rbc.frames = [] := by decide +kernel

/-- A record whose row code is 0, its check right. -/
def recordZeroRow : List Byte :=
  let body := [0xD7, 0xA1, 0, 0] ++ recordBody.drop 4
  body ++ beBytes 2 (crc16 0xFFFF#16 body).toNat

theorem witness_UnusableRecordIsDefaulted :
    (starting.sl.nodeState = .starting ∧ starting.sl.readStarted = some 0 ∧ starting.rbc.frames = [] ∧
      starting.anu.notices = [] ∧ 0 + 100000 ≤ starting.now + 100000) ∧
      (recordA.take 32).length ≠ 33 ∧ 0 + 100000 < starting.now + 100001 ∧
      fieldAt (0 :: recordA.tail) 0 2 ≠ 0xD7A1 ∧
      crc16 0xFFFF#16 ((recordA.set 32 0).take 31) ≠ BitVec.ofNat 16 (fieldAt (recordA.set 32 0) 31 2) ∧
      fieldAt recordZeroRow 2 2 = 0 := by decide +kernel

theorem witness_ParametersLieInTheirRanges : (paramsOf recordA).block = some { first := 201, last := 224 } := by
  decide +kernel

theorem witness_BoundaryAgesPeersAndSeats : node.anu.nextBoundary = some 1000000 ∧ 1000000 ≤ node.now + 1000000 := by decide

/-- With these flags in every announcement buffer. -/
def buffers (b : Buffer) (s : State) : State :=
  s.setAnu { s.anu with presence := b, load := b, streamWant := b, harvest := b }

/-- With an announcement's frame in an attempt. -/
def attempts (k : AnnounceKind) (s : State) : State :=
  s.setRbc { s.rbc with tx := .sending { destination := 30, body := .announcement k } 0 [] }

theorem witness_BuffersTakeTheirTurns :
    node.sl.nodeState = .running ∧ listening.sl.nodeState = .listening ∧
      ((buffers { armed := false, skippedLast := false, queued := true } node).anu.buffer .load).queued = true ∧
      (((sends 8 node).anu.buffer .load) = Buffer.clear ∧ 8 < (sends 8 node).txCount) ∧
      (let s := sends 14 (buffers { armed := false, skippedLast := true, queued := false } node);
        (s.anu.buffer .load).queued = false ∧ (s.anu.buffer .load).skippedLast = true ∧ s.txCount < 16) ∧
      ((sends 7 node).anu.buffer .load = Buffer.clear ∧ (sends 7 node).txCount ≤ 8) ∧
      (let s := sends 15 (buffers { armed := false, skippedLast := true, queued := false } node);
        (s.anu.buffer .load).queued = false ∧ (s.anu.buffer .load).skippedLast = true ∧ 16 ≤ s.txCount) ∧
      (node.anu.buffer .harvest).armed = false ∧
      (let s := attempts .harvest (buffers { armed := true, skippedLast := false, queued := true } node);
        (s.anu.buffer .harvest).armed = true ∧ (s.anu.buffer .harvest).queued = true ∧ s.attempting .harvest = true ∧
          s.attempting .streamWant = false) ∧
      (let s := sends 14 (buffers { armed := true, skippedLast := false, queued := false } node);
        (s.anu.buffer .harvest).armed = true ∧ (s.anu.buffer .harvest).queued = false ∧ s.txCount < 16) ∧
      (let s := sends 15 (buffers { armed := true, skippedLast := false, queued := false } node);
        (s.anu.buffer .harvest).armed = true ∧ (s.anu.buffer .harvest).queued = false ∧ 16 ≤ s.txCount) := by
  decide +kernel

/-! ### Uplink records -/

/-- With this many records in the uplink queue. -/
def uplinks (n : Nat) (s : State) : State := s.setRp { s.rp with uplink := List.replicate n (from1 5 .heard) }

theorem witness_ArrivingRecordIsQueuedOrDropped :
    parseUplink [] = none ∧ parseUplink [1, 0, 0, 0, 0, 0, 1, 0xC4, 5] = some (from1 5 .heard) ∧
      (uplinks 15 node).rp.uplink.length < 16 ∧ 16 ≤ (uplinks 16 node).rp.uplink.length := by decide +kernel

theorem witness_HeardUpdatesItsEntry :
    ∃ s r e, s = clients [entry 1 .associated] (up r node) ∧ s.sl.nodeState ≠ .starting ∧ s.rp.uplink.head? = some r ∧
      r.body = .heard ∧ s.findEntry r.client = some e :=
  ⟨_, from1 5 .heard, entry 1 .associated, rfl, by decide +kernel⟩

/-- A node with node 9 as its peer, room, and client 1 seen there with a good signal. -/
def roamReady : State := withPeer (sightings [sighting 1 .seen] (up (from1 9 .heard) node))

theorem witness_HeardWithoutAnEntry :
    (let s := up (from1 5 .heard) node;
      s.sl.nodeState ≠ .starting ∧ s.rp.uplink.head? = some (from1 5 .heard) ∧ s.findEntry 1 = none ∧
        s.findSighting 1 = none ∧ s.sl.ownAddress = some 5 ∧ s.au.sightings.length < 32 ∧
        ¬ ∃ p ∈ s.anu.peers, p.station = 5 ∧ p.cls = .node ∧ p.status = .live) ∧
      (let s := sightings [sighting 1 .seen] (up (from1 9 .heard) node);
        s.sl.nodeState ≠ .starting ∧ s.rp.uplink.head? = some (from1 9 .heard) ∧ s.findEntry 1 = none ∧
          s.findSighting 1 = some (sighting 1 .seen) ∧ s.sl.ownAddress ≠ some 9 ∧
          ¬ ∃ p ∈ s.anu.peers, p.station = 9 ∧ p.cls = .node ∧ p.status = .live) ∧
      let s := roamReady;
      s.sl.nodeState = .running ∧ s.rp.uplink.head? = some (from1 9 .heard) ∧ s.findEntry 1 = none ∧
        s.findSighting 1 = some (sighting 1 .seen) ∧ s.sl.ownAddress ≠ some 9 ∧
        (∃ p ∈ s.anu.peers, p.station = 9 ∧ p.cls = .node ∧ p.status = .live) ∧
        s.au.clients.countP ClientEntry.isReserved < 4 ∧ s.au.clients.length < s.par.limit ∧
        s.par.claimFloor ≤ servingScore (-240) s.ru.occupancy (s.au.clients.length + 1) (s.home 1) := by decide +kernel

/-- Two clients held, client 1 asks at the join floor. -/
def joinAt (cell : Station) : State :=
  clients [entry 2 .associated, entry 3 .associated] (up { client := 1, rssi := -85, cell := cell, body := .joinRequest } node)

theorem witness_AcceptedJoinCreatesTheEntry :
    ∀ cell ∈ [0, 30, 5, 1, 29],
      let s := joinAt cell;
      let r : UplinkRecord := { client := 1, rssi := -85, cell := cell, body := .joinRequest };
      let v := (s.elapse 0).recordTaken.sample r.client r.rssi r.cell;
      s.sl.nodeState = .running ∧ s.rp.uplink.head? = some r ∧ v.findEntry r.client = none ∧
        s.par.joinFloor ≤ max (-100) (min (-20) r.rssi) ∧ v.au.clients.length < s.par.limit := by decide +kernel

/-- Three clients held. -/
def full (s : State) : State := clients [entry 2 .associated, entry 3 .associated, entry 4 .associated] s

theorem witness_RefusedJoinsSayWhy :
    (let s := up (from1 5 .joinRequest) listening;
      s.sl.nodeState ≠ .starting ∧ s.sl.nodeState ≠ .running ∧ s.rp.uplink.head? = some (from1 5 .joinRequest)) ∧
      (let s := clients [entry 1 (.reserved 9 3000000)] (up (from1 5 .joinRequest) node);
        let v := (s.elapse 0).recordTaken.sample 1 (-60) 5;
        s.sl.nodeState = .running ∧ v.au.clients.map (fun e => (e.id, e.state)) = [(1, .reserved 9 3000000)]) ∧
      (let s := up { client := 1, rssi := -86, cell := 0, body := .joinRequest } node;
        let v := (s.elapse 0).recordTaken.sample 1 (-86) 0;
        s.sl.nodeState = .running ∧ v.findEntry 1 = none ∧ max (-100) (min (-20) (-86)) < s.par.joinFloor) ∧
      (let s := withPeer (full (up { client := 1, rssi := -85, cell := 0, body := .joinRequest } node));
        let v := (s.elapse 0).recordTaken.sample 1 (-85) 0;
        s.sl.nodeState = .running ∧ (∀ p ∈ s.anu.peers, p.station ≤ 30) ∧ v.findEntry 1 = none ∧
          s.par.joinFloor ≤ max (-100) (min (-20) (-85)) ∧ s.par.limit ≤ v.au.clients.length ∧ s.redirect = some 9) := by
  decide +kernel

theorem witness_JoinOfAHeldClient :
    ∀ st ∈ [EntryState.associated, .roamIn 9 20000000, .roamOut 9 30000000],
      let s := clients [entry 1 st] (up (from1 5 .joinRequest) node);
      let v := (s.elapse 0).recordTaken.sample 1 (-60) 5;
      s.sl.nodeState = .running ∧ s.rp.uplink.head? = some (from1 5 .joinRequest) ∧
        (v.findEntry 1).map (·.state) = some st := by decide +kernel

theorem witness_LeaveAndInactivityRemoveTheClient :
    (∀ st ∈ [EntryState.associated, .roamOut 9 30000000],
      let s := clients [entry 1 st] (up (from1 5 .leave) node);
      let v := (s.elapse 0).recordTaken.sample 1 (-60) 5;
      s.sl.nodeState ≠ .starting ∧ s.rp.uplink.head? = some (from1 5 .leave) ∧
        (v.findEntry 1).map (fun e => (e.state.counted, e.subscriptions)) = some (true, [])) ∧
      (let s := clients [entry 1 (.roamIn 9 20000000)] (up (from1 5 .leave) node);
        let v := (s.elapse 0).recordTaken.sample 1 (-60) 5;
        (v.findEntry 1).map (·.state.counted) = some false) ∧
      (∀ cell ∈ [5, 9],
        let s := up (from1 cell .leave) node;
        ((s.elapse 0).recordTaken.sample 1 (-60) cell).findEntry 1 = none) ∧
      (let e := entry 1 .associated;
        let s := clients [e] node;
        s.findEntry 1 = some e ∧ e.state.counted = true ∧ e.subscriptions.Nodup ∧ e.bindings = [] ∧
          e.lastHeard + 600000000 ≤ s.now + 600000000) ∧
      let e := { entry 1 .associated with bindings := [{ seat := 1, serial := 1, owner := 5 }] };
      let s := clients [e] node;
      s.findEntry 1 = some e ∧ e.bindings ≠ [] ∧ e.lastHeard + 1800000000 ≤ s.now + 1800000000 := by decide +kernel

/-- An assembly that expects this index; then this piece comes. -/
def piece (expected index : Nat) (last : Bool) : State :=
  clients [{ entry 1 .associated with assemblyNext := expected }] (up (from1 5 (.capsPiece index last [2, 1, 0, 0])) node)

theorem witness_CapabilityPiecesAreAssembled :
    ∀ x ∈ [(0, 0, false), (1, 1, false), (14, 14, false), (15, 15, false), (2, 1, false), (0, 0, true), (15, 15, true)],
      let s := piece x.1 x.2.1 x.2.2;
      let v := (s.elapse 0).recordTaken.sample 1 (-60) 5;
      s.sl.nodeState ≠ .starting ∧ s.rp.uplink.head? = some (from1 5 (.capsPiece x.2.1 x.2.2 [2, 1, 0, 0])) ∧
        (v.findEntry 1).map (fun e => (e.state, e.assemblyNext, e.subscriptions)) = some (.associated, x.1, []) := by
  decide +kernel

/-- Client 1 holds some streams and asks for stream 7, which is in the catalogue as given. -/
def asks (on : Bool) (l : List StreamId) (st : List StreamEntry) : State :=
  streams st (clients [{ entry 1 .associated with subscriptions := l }] (up (from1 5 (.subscribe 7 on)) node))

/-- Eight streams that hold every air group. -/
def everyGroup : List StreamEntry := (List.range 8).map (fun g => stream (10 + g) .joining (some g) 1)

theorem witness_SubscribingChangesListAndCount :
    (∀ x ∈ [([], []), ([7], [stream 7 .joining (some 0) 1]), ([], [{ stream 7 .dormant none 0 with tier := .high }]),
        ([9], [stream 7 .dormant none 0]), ([], stream 7 .dormant none 0 :: everyGroup), ([], [stream 7 .active (some 3) 2]),
        ([], [stream 7 .leaving (some 7) 0]), ([], [stream 7 .dormant none 0])],
      let s := asks true x.1 x.2;
      let v := (s.elapse 0).recordTaken.sample 1 (-60) 5;
      s.sl.nodeState ≠ .starting ∧ s.rp.uplink.head? = some (from1 5 (.subscribe 7 true)) ∧
        (v.findEntry 1).map (fun e => (e.state, e.subscriptions, e.record)) = some (.associated, x.1, none) ∧
        v.ru.catalogue = x.2) ∧
      (∀ g < 8, ∃ x ∈ everyGroup, x.airGroup = some g) ∧
      (∀ g' < 7, ∃ x ∈ everyGroup.take 7, x.airGroup = some g') ∧ (∀ x ∈ everyGroup.take 7, x.airGroup ≠ some 7) ∧
      let s := asks false [7] [stream 7 .active (some 3) 2];
      s.rp.uplink.head? = some (from1 5 (.subscribe 7 false)) ∧
        (((s.elapse 0).recordTaken.sample 1 (-60) 5).findEntry 1).map (·.state) = some .associated := by decide +kernel

/-! ### Tokens and seats -/

/-- This token comes from client 1. -/
def offers (t : Token) (s : State) : State := up (from1 5 (.token t)) s

theorem witness_TokenTestsRunInOrder :
    (let s := offers (token 1 1) (node.setSv { node.sv with matchState := .closed });
      s.sl.nodeState ≠ .starting ∧ s.rp.uplink.head? = some (from1 5 (.token (token 1 1))) ∧ s.sv.matchState = .closed) ∧
      (let s := offers (token 1 1) listening;
        s.sl.nodeState ≠ .starting ∧ s.sl.nodeState ≠ .running ∧ s.sv.matchState = .opened ∧
          s.rp.uplink.head? = some (from1 5 (.token (token 1 1)))) ∧
      (offers (token 1 1) node).sl.nodeState = .running ∧ (offers (token 1 1) node).sv.matchState = .opened ∧
      (token 0 1).serial = 0 ∧ (token 1 0).seat < 1 ∧ 999 < (token 1 1000).seat ∧
      ∃ k, node.par.codes = some k ∧
        (let t := { token 1 1 with matchCode := 3002 };
          t.serial ≠ 0 ∧ 1 ≤ t.seat ∧ t.matchCode ≠ k.matchCode) ∧
        (let t := { token 1 999 with rowCode := 413 };
          t.serial ≠ 0 ∧ t.seat ≤ 999 ∧ t.matchCode = k.matchCode ∧ t.rowCode ≠ k.rowCode) ∧
        let t := { token 1 999 with check := (token 1 999).check + 1 };
        t.serial ≠ 0 ∧ t.seat ≤ 999 ∧ t.matchCode = k.matchCode ∧ t.rowCode = k.rowCode ∧
          t.check ≠ crc16 k.matchKey
            (beBytes 4 t.serial.toNat ++ beBytes 2 t.matchCode.toNat ++ beBytes 2 t.rowCode.toNat ++ beBytes 2 t.seat) :=
  ⟨by decide +kernel, by decide +kernel, by decide, by decide, by decide, by decide, by decide, _, rfl, by decide +kernel⟩

theorem witness_TokenForAnOwnSeatIsDecided :
    (∀ seat ∈ [1, 10],
      let s := offers (token 1 seat) node;
      s.sl.nodeState = .running ∧ s.sv.matchState = .opened ∧ s.sl.defaulted = false ∧
        s.rp.uplink.head? = some (from1 5 (.token (token 1 seat))) ∧ s.tokenRefusal (token 1 seat) = none ∧
        s.par.block = some { first := 1, last := 10 } ∧ 1 ≤ seat ∧ seat ≤ 10) ∧
      (let s := clients [entry 1 .associated] node;
        s.findEntry 1 = some (entry 1 .associated) ∧ (entry 1 .associated).state.counted = true) ∧
      (let s := clients [entry 1 (.roamIn 9 20000000)] node;
        ∀ e, s.findEntry 1 = some e → e.state.counted = false) := by
  refine ⟨by decide +kernel, by decide +kernel, ?_⟩
  intro s e h
  have : e = entry 1 (.roamIn 9 20000000) := by
    have h' : s.findEntry 1 = some (entry 1 (.roamIn 9 20000000)) := by decide +kernel
    rw [h'] at h
    exact (Option.some.inj h).symm
  subst this
  rfl

/-- A pending token of client `c`. -/
def waiting (c : ClientId) (t : Token) : PendingToken :=
  { client := c, token := t, destination := 9, reforwarded := false, expiry := 10000000 }

/-- With these pending tokens. -/
def pendings (l : List PendingToken) (s : State) : State := s.setSv { s.sv with pendingTokens := l }

theorem witness_TokenForAForeignSeatIsForwarded :
    ∀ x ∈ [(20, node), (30, withPeer node), (11, withPeer node), (1, node.setSl { node.sl with defaulted := true }),
        (20, pendings [waiting 1 (token 1 20)] node), (20, pendings (List.replicate 7 (waiting 2 (token 1 20))) node),
        (20, pendings (List.replicate 8 (waiting 2 (token 1 20))) node)],
      let s := offers (token 1 x.1) x.2;
      s.sl.nodeState = .running ∧ s.sv.matchState = .opened ∧
        s.rp.uplink.head? = some (from1 5 (.token (token 1 x.1))) ∧ s.tokenRefusal (token 1 x.1) = none ∧
        (s.sl.defaulted = true ∨ 10 < x.1) ∧ s.par.block = some { first := 1, last := 10 } := by decide +kernel

/-- The clauses of the statement: whose seat it is, and who waits. -/
theorem witness_TokenForAForeignSeatIsForwarded_clauses :
    (∃ p ∈ (withPeer node).anu.peers, p.cls = .node ∧ p.status = .live ∧ p.block = some { first := 20, last := 30 }) ∧
      (¬ ∃ p ∈ node.anu.peers, p.cls = .node) ∧
      (∃ p ∈ [waiting 1 (token 1 20)], p.client = 1 ∧ p.token.serial = (token 1 20).serial) ∧
      ¬ ∃ p ∈ List.replicate 8 (waiting 2 (token 1 20)), p.client = 1 := by decide +kernel

/-- Seat 3 in these states, seat 4 as given, some contests on other seats. -/
def seats (three four : SeatState) (contests : Nat) : State :=
  let s := seated 4 four (seated 3 three node)
  s.setSv
    { s.sv with
      authority := List.replicate contests
        { seat := 9, reason := .doubleSale, challenger := holder 77 7, attempts := 1, expiry := 100000000 } }

theorem witness_SeatDecisionFollowsItsTable :
    node.findSeat 11 = none ∧ ((seats .blocked .vacant 0).findSeat 3).map (·.state) = some .blocked ∧
      (∃ y ∈ (seats .vacant (.bound .held (holder 1 1)) 0).sv.seats, y.number ≠ 3 ∧ ∃ b ∈ y.state.holder, b.serial = 1) ∧
      (∃ a ∈ (seats .vacant .vacant 1).sv.authority, a.seat ≠ 3 ∧ a.challenger.serial = 77) ∧
      (∀ x ∈ [SeatState.vacant, .contested .away (holder 2 2), .bound .held (holder 1 1), .bound .away (holder 1 1),
          .bound .occupied (holder 1 2), .bound .held (holder 2 1)],
        ∀ contests ∈ [7, 8],
          let s := seats x .vacant contests;
          (s.findSeat 3).map (·.state) = some x ∧ x ≠ .blocked ∧
            (∀ y ∈ s.sv.seats, y.number ≠ 3 → ∀ b ∈ y.state.holder, b.serial ≠ 1) ∧
            (∀ a ∈ s.sv.authority, a.seat ≠ 3 → a.challenger.serial ≠ 1) ∧ s.present 1 = false ∧
            s.sv.authority.length = contests) ∧
      (clients [{ entry 1 .associated with signal := -260 }] (seats .vacant .vacant 0)).present 1 = true ∧
      (clients [{ entry 1 .associated with signal := -261 }] (seats .vacant .vacant 0)).present 1 = false := by
  decide +kernel

theorem witness_ForwardedTokenIsAnswered :
    ∀ x ∈ [(0, node), (5, node), (5, listening), (5, node.setSv { node.sv with matchState := .closed })],
      ∀ source ∈ [1, 30],
        let m := Message.tokenForward 1 (token 1 3);
        let f := frame source x.1 m;
        let s := x.2.setRbc { x.2.rbc with rxQueue := [f] };
        s.sl.nodeState ≠ .starting ∧ s.oldestFor .seatValidator = some f ∧ f.kind = .tokenForward ∧ f.message = some m ∧
          1 ≤ f.source ∧ f.source ≤ 30 := by decide +kernel

theorem witness_ResultSettlesThePendingToken :
    (∀ code ∈ [TokenCode.accepted, .notOwner],
      (rx 9 (.tokenResult 1 1 20 code) node).carries .seatValidator 9 (.tokenResult 1 1 20 code)) ∧
      (let s := rx 9 (.tokenResult 1 1 20 .held) (node.setSv { node.sv with matchState := .closed });
        s.sl.nodeState ≠ .starting ∧ s.sv.matchState = .closed ∧
          s.carries .seatValidator 9 (.tokenResult 1 1 20 .held)) ∧
      (pendings [waiting 1 (token 1 20)] node).findPending 1 1 = some (waiting 1 (token 1 20)) ∧
      (waiting 1 (token 1 20)).reforwarded = false ∧
      (waiting 1 (token 1 20)).expiry ≤ (pendings [waiting 1 (token 1 20)] node).now + 10000000 ∧
      (clients [entry 1 .associated] node).findPending 1 1 = none ∧
      (clients [entry 1 .associated] node).findEntry 1 = some (entry 1 .associated) ∧
      (entry 1 .associated).state.counted = true ∧ node.findEntry 1 = none := by
  refine ⟨?_, ⟨by decide, by decide, carries_of (by decide +kernel)⟩, by decide +kernel, by decide, by decide +kernel,
    by decide, by decide, by decide, by decide⟩
  intro code h
  rcases List.mem_cons.mp h with rfl | h
  · exact carries_of (by decide +kernel)
  · rcases List.mem_singleton.mp h with rfl
    exact carries_of (by decide +kernel)

/-- An entry with one binding, seat 3 by serial 1. -/
def bound1 (heard : Time) : ClientEntry :=
  { entry 1 .associated with lastHeard := heard, bindings := [{ seat := 3, serial := 1, owner := 5 }] }

theorem witness_HoldExpiryReleasesTheSeat :
    (let s := seated 3 (.bound .held (holder 1 1)) node;
      (s.findSeat 3).map (fun x => (x.state, x.heldSince)) = some (.bound .held (holder 1 1), 0) ∧
        0 + 10000000 * s.par.holdSeconds ≤ s.now + 1200000000) ∧
      ((rx 9 (.seatReleased 1 1 3) node).sl.nodeState ≠ .starting ∧
        (rx 9 (.seatReleased 1 1 3) node).carries .associationUnit 9 (.seatReleased 1 1 3)) ∧
      (let s := clients [bound1 0] (rx 9 (.seatReleased 1 1 3) node);
        s.findEntry 1 = some (bound1 0) ∧ (∃ b ∈ (bound1 0).bindings, b.serial = 1 ∧ b.seat = 3) ∧
          (bound1 0).bindings.filter (fun b => !(b.serial == 1 && b.seat == 3)) = [] ∧ (bound1 0).state.counted = true ∧
          s.now + 599999999 < (bound1 0).lastHeard + 600000000 ∧ (bound1 0).lastHeard + 600000000 ≤ s.now + 600000000) := by
  refine ⟨by decide +kernel, ⟨by decide, carries_of (by decide +kernel)⟩, by decide +kernel⟩

/-- A contest on seat 3: the incumbent is serial 1 of client 1, the challenger serial 2 of client 2. -/
def contest (prior : BoundState) (attempts : Nat) (origin : Station) (s : State) : State :=
  let s := seated 3 (.contested prior (holder 1 1)) s
  s.setSv
    { s.sv with
      authority := [{ seat := 3, reason := .doubleSale, challenger := { holder 2 2 with origin := origin },
                      attempts := attempts, expiry := 100000000 }] }

theorem witness_AuthorityTimerResendsThenDefaults :
    ∀ n ∈ [1, 2],
      let s := contest .held n 5 node;
      (s.findAuthority 3).map (fun a => (a.attempts, a.expiry)) = some (n, 100000000) ∧ 100000000 ≤ s.now + 100000000 ∧
        (s.findSeat 3).map (·.state) = some (.contested .held (holder 1 1)) := by decide +kernel

theorem witness_VerdictsEndTheContest :
    ((rx 30 (.authorityAnswer 3 .keep) node).carries .seatValidator 30 (.authorityAnswer 3 .keep) ∧
      (rx 30 (.authorityAnswer 3 .replace) node).carries .seatValidator 30 (.authorityAnswer 3 .replace) ∧
      (rx 30 (.authorityAnswer 3 .block) node).carries .seatValidator 30 (.authorityAnswer 3 .block) ∧
      (rx 30 (.authorityAnswer 3 .unblock) node).carries .seatValidator 30 (.authorityAnswer 3 .unblock)) ∧
      node.sl.nodeState ≠ .starting ∧ node.findAuthority 3 = none ∧
      (∀ origin ∈ [5, 9],
        let s := contest .held 1 origin node;
        (s.findAuthority 3).map (·.challenger.origin) = some origin ∧
          (s.findSeat 3).map (fun x => (x.state, x.heldSince)) = some (.contested .held (holder 1 1), 0) ∧
          s.now + 1199999999 < 0 + 10000000 * s.par.holdSeconds) ∧
      ((contest .away 1 5 node).findSeat 3).map (·.state) = some (.contested .away (holder 1 1)) ∧
      ((seated 3 .blocked node).findSeat 3).map (·.state) = some .blocked := by
  refine ⟨⟨carries_of (by decide +kernel), carries_of (by decide +kernel), carries_of (by decide +kernel),
    carries_of (by decide +kernel)⟩, by decide, by decide, by decide +kernel, by decide +kernel, by decide +kernel⟩

theorem witness_MatchCloseClearsSeats :
    ((rx 30 (.matchState .opened) node).carries .seatValidator 30 (.matchState .opened) ∧
      (rx 30 (.matchState .closed) node).carries .seatValidator 30 (.matchState .closed) ∧
      (rx 30 (.blockReset .ticket) node).carries .seatValidator 30 (.blockReset .ticket)) ∧
      node.sl.nodeState ≠ .starting ∧
      ∀ e ∈ (clients [bound1 0] node).au.clients, node.now + 599999999 < e.lastHeard + 600000000 := by
  refine ⟨⟨carries_of (by decide +kernel), carries_of (by decide +kernel), carries_of (by decide +kernel)⟩, by decide,
    by decide +kernel⟩

/-! ### Roaming -/

/-- A claim for client 1 from node 9. -/
def claimed (n : Nat) (l : List ClientEntry) : State := clients l (rx 9 (.roamClaim 1 n) node)

/-- The frames of the roaming statements, each carried from a node's station. -/
theorem witness_roamFrames :
    (claimed 514 []).carries .roamEngine 9 (.roamClaim 1 514) ∧ (claimed 513 []).carries .roamEngine 9 (.roamClaim 1 513) ∧
      (rx 9 (.roamGrant 1 ⟨[], [7], none⟩) node).carries .roamEngine 9 (.roamGrant 1 ⟨[], [7], none⟩) ∧
      (rx 1 (.roamDeny 1 .busy 0) node).carries .roamEngine 1 (.roamDeny 1 .busy 0) ∧
      (rx 29 (.roamReturn 1) node).carries .roamEngine 29 (.roamReturn 1) ∧
      (rx 9 (.clientMoved 1 true) node).carries .roamEngine 9 (.clientMoved 1 true) ∧
      (rx 9 (.clientMoved 1 false) node).carries .roamEngine 9 (.clientMoved 1 false) ∧
      (rx 9 (.contextReply 1 none) node).carries .roamEngine 9 (.contextReply 1 none) ∧
      (rx 9 (.contextReply 1 (some ⟨[], [7], none⟩)) node).carries .roamEngine 9
        (.contextReply 1 (some ⟨[], [7], none⟩)) := by
  refine ⟨?_, ?_, ?_, ?_, ?_, ?_, ?_, ?_, ?_⟩ <;> exact carries_of (by decide +kernel)

/-- The tests in their order; the own score is 450, so that 514 is the least claim granted. -/
theorem witness_ClaimIsDeniedOrGranted :
    (claimed 514 []).sl.nodeState ≠ .starting ∧ (claimed 514 []).findEntry 1 = none ∧
      (∀ st ∈ [EntryState.reserved 8 3000000, .roamIn 8 20000000, .roamOut 8 30000000, .associated],
        (claimed 514 [entry 1 st]).findEntry 1 = some (entry 1 st)) ∧
      (let out (c : ClientId) := entry c (.roamOut 9 30000000);
        4 ≤ (claimed 514 [entry 1 .associated, out 2, out 3, out 4, out 6]).au.clients.countP ClientEntry.isRoamOut ∧
          (claimed 514 [entry 1 .associated, out 2, out 3, out 4]).au.clients.countP ClientEntry.isRoamOut < 4) ∧
      { entry 1 .associated with holdDown := some 300000000 }.holdDown ≠ none ∧ (entry 1 .associated).holdDown = none ∧
      let s := claimed 514 [entry 1 .associated];
      let own := servingScore (-300) s.ru.occupancy s.au.clients.length (s.home 1);
      513 < own + s.par.margin ∧ own + s.par.margin ≤ 514 := by decide +kernel

theorem witness_GrantIsTakenOrReturned :
    (rx 9 (.roamGrant 1 ⟨[], [7], none⟩) node).sl.nodeState ≠ .starting ∧
      (∀ st ∈ [EntryState.reserved 9 3000000, .reserved 8 3000000, .roamIn 8 20000000, .roamIn 9 20000000,
          .roamOut 8 30000000, .associated],
        (clients [entry 1 st] node).findEntry 1 = some (entry 1 st)) ∧
      (let s := clients [entry 2 .associated, entry 3 .associated] node;
        s.findEntry 1 = none ∧ s.sl.nodeState = .running ∧ s.au.clients.length < s.par.limit) ∧
      ((full node).findEntry 1 = none ∧ (full node).par.limit ≤ (full node).au.clients.length) ∧
      (listening.findEntry 1 = none ∧ listening.sl.nodeState ≠ .running) ∧
      { entry 1 .associated with contextWait := some { oldStation := 9, expiry := 10000000 } }.awaits 9 = true ∧
      (entry 1 .associated).awaits 9 = false := by decide +kernel

theorem witness_RoamExchangesEnd :
    (∀ st ∈ [EntryState.reserved 1 3000000, .roamIn 9 20000000, .roamOut 29 30000000],
      (clients [entry 1 st] node).findEntry 1 = some (entry 1 st)) ∧
      (sightings (List.replicate 31 (sighting 2 .seen)) node).au.sightings.length < 32 ∧ 3000000 ≤ node.now + 3000000 ∧
      20000000 ≤ node.now + 20000000 ∧ 30000000 ≤ node.now + 30000000 ∧ node.sl.nodeState ≠ .starting := by decide +kernel

theorem witness_MovedClientIsLetGo :
    (rx 9 (.clientMoved 1 true) node).sl.nodeState ≠ .starting ∧ (rx 9 (.clientMoved 1 true) node).findEntry 1 = none ∧
      let e := { entry 1 (.roamOut 9 30000000) with subscriptions := [7, 9] };
      (clients [e] (rx 9 (.clientMoved 1 true) node)).findEntry 1 = some e ∧ e.subscriptions.Nodup := by decide +kernel

theorem witness_AwaitedContextIsMerged :
    (let s := clients [entry 1 .associated] (rx 9 (.contextReply 1 none) node);
      s.sl.nodeState ≠ .starting ∧ s.findEntry 1 = some (entry 1 .associated) ∧ (entry 1 .associated).awaits 9 = false) ∧
      let e := { bound1 0 with contextWait := some { oldStation := 9, expiry := 10000000 } };
      (clients [e] (rx 9 (.contextReply 1 none) node)).findEntry 1 = some e ∧ e.state = .associated := by decide +kernel

theorem witness_QuietTimersEndTheirField :
    (let s := sightings [sighting 1 (.backoff 50000000)] node;
      s.findSighting 1 = some (sighting 1 (.backoff 50000000)) ∧
        (sighting 1 (.backoff 50000000)).removal ≤ s.now + 100000000 ∧ 50000000 ≤ s.now + 50000000) ∧
      let e := { bound1 0 with holdDown := some 300000000, contextWait := some { oldStation := 9, expiry := 10000000 } };
      (clients [e] node).findEntry 1 = some e ∧ 300000000 ≤ node.now + 300000000 ∧ 10000000 ≤ node.now + 10000000 := by
  decide +kernel

theorem witness_RoamAndCounterResets :
    (rx 30 (.blockReset .roam) node).carries .associationUnit 30 (.blockReset .roam) ∧
      (rx 30 (.blockReset .counters) node).carries .counterBank 30 (.blockReset .counters) ∧
      (rx 30 .harvestRequest node).carries .counterBank 30 .harvestRequest ∧ node.sl.nodeState ≠ .starting :=
  ⟨carries_of (by decide +kernel), carries_of (by decide +kernel), carries_of (by decide +kernel), by decide⟩

/-! ### Replay streams and the replay cycle -/

/-- Sixteen DORMANT streams 1..16, stream 3 announced at 0 and the others later. -/
def fullCatalogue : List StreamEntry :=
  (List.range 16).map (fun i => { stream (i + 1) .dormant none 0 with lastAnnounced := if i = 2 then 0 else 5 })

theorem witness_LiveStreamIsInsertedOrUpdated :
    (rx 30 (.streamAnnounce 255 .high .skip .live) node).carries .replayUnit 30 (.streamAnnounce 255 .high .skip .live) ∧
      (node.sl.nodeState ≠ .starting ∧ (255 : StreamId) ≠ 0) ∧
      (streams [stream 255 .leaving (some 0) 0] node).findStream 255 ≠ none ∧
      ((streams (fullCatalogue.take 15) node).findStream 255 = none ∧
        (streams (fullCatalogue.take 15) node).ru.catalogue.length < 16) ∧
      ((streams fullCatalogue node).findStream 255 = none ∧ 16 ≤ fullCatalogue.length) ∧
      ∃ old ∈ fullCatalogue, old.activity = .dormant ∧ (∀ x ∈ fullCatalogue, x.id < 256) ∧
        ∀ x ∈ fullCatalogue, x.activity = .dormant →
          old.lastAnnounced < x.lastAnnounced ∨ (old.lastAnnounced = x.lastAnnounced ∧ old.id ≤ x.id) :=
  ⟨carries_of (by decide +kernel), by decide, by decide +kernel, by decide +kernel, by decide +kernel,
    { stream 3 .dormant none 0 with lastAnnounced := 0 }, by decide +kernel⟩

theorem witness_EndedStreamLosesItsSubscribers :
    (rx 30 (.streamAnnounce 7 .low .repeat .ended) node).carries .replayUnit 30 (.streamAnnounce 7 .low .repeat .ended) ∧
      (node.sl.nodeState ≠ .starting ∧ (7 : StreamId) ≠ 0) ∧ node.findStream 7 = none ∧
      (∀ a ∈ [Activity.dormant, .joining, .active, .leaving],
        (streams [stream 7 a none 0] node).findStream 7 = some (stream 7 a none 0) ∧ (stream 7 a none 0).ended = false) :=
  ⟨carries_of (by decide +kernel), by decide, by decide, by decide +kernel⟩

/-- A stream with these cached segments, of one byte each. -/
def cached (a : Activity) (next : Option Sequence) (l : List Sequence) : StreamEntry :=
  { stream 7 a (some 0) 1 with next := next, unaired := l.map (fun q => { seq := q, data := [0] }) }

theorem witness_SegmentIsCachedOrDiscarded :
    (rx 30 (.segment 7 65535 1 [9]) node).carries .replayUnit 30 (.segment 7 65535 1 [9]) ∧
      (rx 30 (.segment 7 32 2 [9]) node).carries .replayUnit 30 (.segment 7 32 2 [9]) ∧ node.sl.nodeState ≠ .starting ∧
      (let e := cached .joining none [];
        (streams [e] node).findStream 7 = some e ∧ e.activity = .joining ∧ e.next = none ∧ e.unaired.length < 7) ∧
      (let e := cached .active (some 65534) [65534, 0, 1, 2, 3, 4];
        (streams [e] node).findStream 7 = some e ∧ e.activity = .active ∧ e.next = some 65534 ∧
          ¬ ((65534 : Sequence).toNat + 65536 - (65535 : Sequence).toNat) % 65536 ≤ 32768 ∧
          (∀ x ∈ e.unaired, x.seq ≠ 65535) ∧ e.unaired.length < 7) :=
  ⟨carries_of (by decide +kernel), carries_of (by decide +kernel), by decide, by decide +kernel, by decide +kernel⟩

/-- A running cycle over stream 7, at this slot, with this many records for the radio unit. -/
def running (slot : Option Nat) (e : StreamEntry) (records : Nat) : State :=
  ((streams [e] node).setRp { node.rp with downlink := List.replicate records (.dropClient 2) }).setRu
    { catalogue := [e], occupancy := 0,
      cycle := { ReplayCycle.stopped with running := true, active := [some 7], slot := slot, startedAt := 0 } }

theorem witness_SlotAirsOrUnderruns :
    (∀ x ∈ [(none, 0), (some 0, 1)],
      let s := running x.1 (cached .active (some 3) [3, 4]) 15;
      s.ru.cycle.running = true ∧ s.ru.cycle.slot = x.1 ∧ x.2 < s.par.slots ∧
        s.ru.cycle.startedAt + 10000 * (x.2 * s.par.slotMs) ≤ s.now + 50000 * x.2 ∧
        s.ru.cycle.active[(s.ru.cycle.offset + x.2) % s.ru.cycle.active.length]? = some (some 7)) ∧
      (∀ a ∈ [Activity.leaving, .joining], (cached a none []).activity ≠ .active) ∧
      (let e := cached .active (some 3) [3, 4];
        (running none e 15).findStream 7 = some e ∧ e.unaired.find? (fun y => y.seq == 3) = some { seq := 3, data := [0] } ∧
          (running none e 15).rp.downlink.length < 16 ∧ 16 ≤ (running none e 16).rp.downlink.length) ∧
      let e := cached .active (some 3) [4];
      (running none e 15).findStream 7 = some e ∧ e.activity = .active ∧ ∀ x ∈ e.unaired, x.seq ≠ 3 := by decide +kernel

/-- Two slots of 5 ms: the end is due at 10 ms. -/
theorem witness_CycleEndClosesAndRestarts :
    ∀ a ∈ [Activity.leaving, .joining, .active],
      let s := running (some 1) (cached a none []) 0;
      s.ru.cycle.running = true ∧ s.ru.cycle.slot = some 1 ∧ 1 + 1 = s.par.slots ∧
        s.ru.cycle.startedAt + 10000 * (s.par.slots * s.par.slotMs) ≤ s.now + 100000 := by decide +kernel

theorem witness_ReplayResetRestartsTheCycle :
    (rx 30 (.blockReset .replay) node).carries .replayUnit 30 (.blockReset .replay) ∧ node.sl.nodeState ≠ .starting ∧
      (∀ l ∈ [[stream 7 .leaving (some 0) 0, stream 8 .dormant none 0], [stream 7 .active (some 0) 2]],
        ∀ e ∈ l, (e.activity = .joining ∨ e.activity = .active) ↔ e.subscribers ≠ 0) ∧
      (∀ e ∈ [stream 7 .leaving (some 0) 0, stream 8 .dormant none 0], e.subscribers = 0) ∧
      ∃ e ∈ [stream 7 .active (some 0) 2], e.subscribers ≠ 0 :=
  ⟨carries_of (by decide +kernel), by decide, by decide +kernel, by decide +kernel, by decide +kernel⟩

/-! ### Peers -/

theorem witness_PeersFollowPresenceAndLoad :
    (∀ x ∈ [(PeerClass.node, 1, 20), (.node, 29, 10), (.gateway, 30, 20), (.node, 30, 20), (.gateway, 29, 20)],
      let m := Message.presence x.1 (some { first := x.2.2, last := 999 }) false true;
      let f := frame x.2.1 0 m;
      let s := node.setRbc { node.rbc with rxQueue := [f] };
      s.sl.nodeState ≠ .starting ∧ s.oldestFor .announcementUnit = some f ∧ f.kind = .presence ∧ f.message = some m ∧
        s.sl.defaulted = false ∧ s.par.block = some { first := 1, last := 10 }) ∧
      (rx 9 (.load 100 48 48) node).carries .announcementUnit 9 (.load 100 48 48) ∧
      (rx 9 (.load 101 48 48) node).carries .announcementUnit 9 (.load 101 48 48) :=
  ⟨by decide +kernel, carries_of (by decide +kernel), carries_of (by decide +kernel)⟩

/-! ### The row bus -/

/-- The bytes of a ROAM_RETURN. -/
def arrives (destination source : Station) : List Byte := frameBytes destination source (.roamReturn 1)

theorem witness_ReceivedFrameIsJudgedAndStored :
    (node.rbc.tx.isSending = false ∧ node.rbc.rxMuted = false ∧ node.sl.nodeState ≠ .starting ∧
      starting.rbc.tx.isSending = false ∧ starting.sl.nodeState = .starting) ∧
      ¬ 5 ≤ (arrives 5 9 |>.take 4).length ∧
      (∀ x ∈ [(5, 5), (6, 9), (0, 9), (5, 9), (5, 31)],
        let b := arrives x.1 x.2;
        5 ≤ b.length ∧ fieldAt b 0 1 = x.1 ∧ fieldAt b 1 1 = x.2 ∧ fieldAt b 3 2 = 6 ∧
          b.drop (5 + 6) = crc32Bytes (b.take (5 + 6)) ∧ b.length = 9 + 6 ∧
          enumAt FrameKind.table b 2 = some .roamReturn ∧ FrameKind.roamReturn.payloadLengthOk 6 = true) ∧
      (node.setRbc { node.rbc with rxQueue := List.replicate 7 (frame 9 5 (.roamReturn 1)) }).rbc.rxQueue.length < 8 ∧
      8 ≤ (node.setRbc { node.rbc with rxQueue := List.replicate 8 (frame 9 5 (.roamReturn 1)) }).rbc.rxQueue.length := by
  decide +kernel

/-- The line quiet since 0, a frame in DEFER since 0 after `n` collisions. -/
def defers (f : TxFrame) (n : Nat) : State := node.setRbc { node.rbc with tx := .defer f n 0 }

theorem witness_DeferralRunsInFull :
    (let s := defers (frameOf 9 (.notice .seatOverlap 9)) 5;
      s.rbc.tx = .defer (frameOf 9 (.notice .seatOverlap 9)) 5 0 ∧ s.rbc.quietSince = some 0 ∧
        (frameOf 9 (.notice .seatOverlap 9)).urgent = false ∧ max 0 0 + 10 * (12 + s.own % 8 + 8 * 5) ≤ s.now + 570 ∧
        s.now + 569 < max 0 0 + 10 * (12 + s.own % 8 + 8 * 5)) ∧
      let s := defers (frameOf 9 (.roamReturn 1)) 0;
      s.rbc.quietSince = some 0 ∧ (frameOf 9 (.roamReturn 1)).urgent = true ∧
        max 0 0 + 10 * (4 + s.own % 8 + 8 * 0) ≤ s.now + 90 := by decide +kernel

/-- A frame in an attempt, with these waiting. -/
def inAttempt (body : TxBody) (n : Nat) (urgent normal : List TxFrame) : State :=
  let f : TxFrame := { destination := 9, body := body }
  node.setRbc { node.rbc with tx := .sending f n (List.replicate 63 0), txUrgent := urgent, txNormal := normal, quietSince := none }

theorem witness_CompletedFrameIsCountedAndReported :
    let g := frameOf 9 (.notice .seatOverlap 9);
    let h := frameOf 9 (.roamReturn 1);
    (∀ body ∈ [TxBody.message (.roamReturn 1), .announcement .presence, .announcement .load, .announcement .streamWant,
        .announcement .harvest],
      (inAttempt body 0 [h] [g]).rbc.tx = .sending { destination := 9, body := body } 0 (List.replicate 63 0)) ∧
      (inAttempt (.announcement .load) 0 [h] [g]).rbc.txUrgent = [h] ∧
      ((inAttempt (.announcement .load) 0 [] [g]).rbc.txUrgent = [] ∧
        (inAttempt (.announcement .load) 0 [] [g]).rbc.txNormal = [g]) ∧
      (inAttempt (.announcement .load) 0 [] []).rbc.txNormal = [] := by decide +kernel

theorem witness_CollisionDefersOrLosesTheFrame :
    (∀ n ∈ [4, 5], ∀ body ∈ [TxBody.message (.roamReturn 1), .announcement .load, .announcement .harvest,
        .message (.tokenForward 1 (token 1 20))],
      (inAttempt body n [] []).rbc.tx = .sending { destination := 9, body := body } n (List.replicate 63 0)) ∧
      (pendings [waiting 1 (token 1 20)] node).findPending 1 (token 1 20).serial = some (waiting 1 (token 1 20)) ∧
      (waiting 1 (token 1 20)).destination = 9 ∧ { waiting 1 (token 1 20) with destination := 30 }.destination ≠ 9 ∧
      node.findPending 1 (token 1 20).serial = none := by decide +kernel

theorem witness_HandOverAcceptsEvictsOrRefuses :
    let normal := frameOf 9 (.notice .seatOverlap 9);
    let urgent := frameOf 9 (.roamReturn 1);
    (node.sl.nodeState = .running ∧ node.txCount < 16 ∧ node.rbc.tx = .idle) ∧
      (normal.urgent = false ∧ urgent.urgent = true) ∧
      ((sends 14 node).txCount < 16 ∧ (sends 14 node).rbc.tx = .defer normal 0 0 ∧
        (sends 14 node).rbc.tx.hand = some normal ∧ (sends 14 node).rbc.quietSince = some 0) ∧
      (((sends 14 node).elapse 89).now < max 0 0 + 10 * (4 + node.own % 8) ∧
        max 0 0 + 10 * (4 + node.own % 8) ≤ ((sends 14 node).elapse 90).now) ∧
      (16 ≤ (sends 15 node).txCount ∧ (sends 15 node).rbc.txNormal = List.replicate 14 normal ++ [normal]) ∧
      let s := node.setRbc { node.rbc with tx := .defer urgent 0 0, txUrgent := List.replicate 15 urgent };
      16 ≤ s.txCount ∧ s.rbc.txNormal = [] := by decide +kernel

theorem witness_FrameBytesCarryTheMessage :
    (Message.roamClaim 1 65535).fits ∧ (255 : Station) < 256 ∧ (Message.streamWant [0, 1, 2, 3, 4, 5, 6, 255]).fits := by
  refine ⟨by show (65535 : Nat) < 65536; decide, by decide, ?_⟩
  show _ ∧ _
  decide

/-! ### The radio link, counters and scores -/

theorem witness_RadioLinkMovesTheOldestRecord :
    State.reset.rp.transfer = .idle ∧
      let p : RadioPort := { State.reset.rp with downlink := [.dropClient 1], transfer := .sending (Downlink.dropClient 1).bytes };
      (State.reset.setRp p).rp.transfer ≠ .idle := by decide +kernel

theorem witness_ReplyIsQueuedHeldOrLost :
    let s (queued held : Nat) : State :=
      node.setRp { node.rp with downlink := List.replicate queued (.dropClient 2), held := List.replicate held (.dropClient 3) }
    ((s 15 0).rp.held = [] ∧ (s 15 0).rp.downlink.length < 16) ∧ ((s 16 0).rp.held = [] ∧ 16 ≤ (s 16 0).rp.downlink.length) ∧
      ((s 16 7).rp.held ≠ [] ∧ (s 16 7).rp.held.length < 8) ∧ 8 ≤ (s 16 8).rp.held.length := by decide +kernel

theorem witness_IncrementRaisesOneCounter :
    node.masked .rx0 = false ∧ CounterId.rx1 ≠ .rx0 ∧
      (node.setSl { node.sl with params := some { par0 with mask := 1 } }).masked .rx0 = true := by decide +kernel

/-- A target of −280 (RSSI −70), and signals at the ends of each clause. -/
theorem witness_SmoothingSettles :
    let target : Int := 4 * max (-100) (min (-20) (-70));
    target = -280 ∧ (-283 ≤ target ∧ target - -283 ≤ 3) ∧ (4 ≤ target - -284 ∧ target - -287 ≤ 7) ∧
      (-4 ≤ target - -276 ∧ target - -279 ≤ -1) ∧ target - -275 ≤ -5 ∧ (3 ≤ target - -283 ∧ target - -284 - 3 ≤ (1 : Nat)) ∧
      (target ≤ -276 ∧ -276 - target ≤ (4 : Nat)) ∧ (|(-284 : Int) - target| ≤ (4 : Nat) ∧ |(-276 : Int) - target| ≤ (4 : Nat)) := by
  decide

theorem witness_ServingScoreIsTheSum :
    (let s := seated 3 (.bound .held (holder 1 1)) node;
      { entry 1 .associated with signal := -80 }.signal = -80 ∧ s.ru.occupancy = 0 ∧ s.au.clients.length ≤ 32 ∧
        s.home 1 = true) ∧
      let s := (clients (List.replicate 48 (entry 1 .associated)) node).setRu { node.ru with occupancy := 100 };
      { entry 1 .associated with signal := -400 }.signal = -400 ∧ s.ru.occupancy = 100 ∧ s.au.clients.length = 48 ∧
        s.home 1 = false := by decide +kernel

/-! ### The invariants: each holds in a state that is not empty, and a step goes on from there -/

/-- Client 1 is HELD on seat 3 and listens to stream 7, which airs, client 9 is sighted, node 9 is a peer, a contest is open, a notice, frames
and records wait. -/
def busy : State :=
  let s := contest .held 1 5
    (sightings [sighting 9 .seen] (clients [{ bound1 0 with subscriptions := [7] }] (running (some 1) (cached .active (some 3) [3, 4]) 0)))
  let s := withPeer (s.setAnu { s.anu with notices := [{ kind := .contestDefaulted, subject := 3 }] })
  { (sends 2 (up (from1 5 .heard) s)) with pending := [.heard 0, .lineBusy 0] }

theorem witness_StepGoesOn : ∃ t, step busy = .next t := ⟨_, rfl⟩

theorem witness_StepKeepsRadioOrdered : busy.rp.ordered := by
  refine ⟨by decide, by decide, by decide, (fun h => (h rfl).elim), (fun _ h => nomatch h), (fun _ h => nomatch h)⟩

theorem witness_StepKeepsCountersOrdered : busy.countersOrdered := by
  refine ⟨by decide +kernel, fun h => nomatch h⟩

theorem witness_StepKeepsBusOrdered : busy.busOrdered := by
  refine ⟨by decide +kernel, by decide, (fun h => nomatch h), by decide +kernel, by decide +kernel, ?_, by decide, ?_⟩
  on_goal 2 => rintro (h | h) <;> cases h
  intro k
  cases k <;> decide +kernel

theorem witness_StepKeepsClientsOrdered : busy.clientsOrdered := by
  refine ⟨by decide +kernel, by decide +kernel, by decide +kernel, by decide, by decide, by decide,
    fun h => (h rfl).elim, ?_, by decide +kernel⟩
  intro e h
  rcases List.mem_singleton.mp h with rfl
  exact ⟨by decide, by decide, by decide, by decide, by decide +kernel, by decide, by decide, fun _ h => nomatch h⟩

theorem witness_StepKeepsStreamsOrdered : busy.streamsOrdered := by
  refine ⟨by decide, by decide +kernel, by decide +kernel, by decide +kernel, by decide +kernel, ?_, by decide +kernel⟩
  intro st h
  rcases List.mem_singleton.mp h with rfl
  exact ⟨by decide +kernel, by decide +kernel, by decide, by decide, fun g h => by cases h; decide⟩

theorem witness_StepKeepsCacheOrdered : busy.cacheOrdered := by
  refine ⟨by decide +kernel, ?_⟩
  intro e h
  rcases List.mem_singleton.mp h with rfl
  exact ⟨by decide, by decide, (fun h => nomatch h), by decide +kernel, by decide +kernel, fun _ h => nomatch h⟩

theorem witness_StepKeepsSeatsOrdered : busy.seatsOrdered := by
  refine ⟨by decide +kernel, by decide, by decide +kernel, by decide, by decide, ?_, ?_, ?_, by decide +kernel,
    fun h => (h rfl).elim⟩
  · intro n
    constructor
    · rintro ⟨r, hr, rfl, hc⟩
      have h : ∀ r ∈ busy.sv.seats, r.state.isContested = true → ∃ a ∈ busy.sv.authority, a.seat = r.number := by
        decide +kernel
      exact h r hr hc
    · rintro ⟨a, ha, rfl⟩
      have h : ∀ a ∈ busy.sv.authority, ∃ r ∈ busy.sv.seats, r.number = a.seat ∧ r.state.isContested = true := by
        decide +kernel
      exact h a ha
  · have h : ∀ r ∈ busy.sv.seats, ∀ r' ∈ busy.sv.seats, r.state.holder ≠ none → r'.state.holder ≠ none →
        r.number = r'.number := by decide +kernel
    intro r hr r' hr' a b ha hb _
    exact h r hr r' hr' (by simp [ha]) (by simp [hb])
  · have h : ∀ r ∈ busy.sv.seats, r.state.holder ≠ none → ∀ a ∈ busy.sv.authority, r.number = a.seat := by decide +kernel
    intro r hr x hx a ha _
    exact h r hr (by simp [hx]) a ha

theorem witness_StepKeepsBusOrdered_peers : busy.peersOrdered := by
  refine ⟨by decide +kernel, ?_, (fun _ h => nomatch h), by decide, by decide +kernel, fun h => nomatch h⟩
  intro p h
  rcases List.mem_singleton.mp h with rfl
  refine ⟨by decide, by decide, by decide, by decide, ?_, ?_⟩
  · intro b h
    cases h
    decide
  · intro l h
    cases h
    decide

theorem witness_StepKeepsClientsOrdered_roam : busy.roamOrdered := by
  refine ⟨by decide +kernel, by decide +kernel, ?_⟩
  intro e h hne
  rcases List.mem_singleton.mp h with rfl
  exact (hne rfl).elim

theorem witness_StepKeepsCacheOrdered_cycle : busy.cycleOrdered := by
  refine ⟨by decide, by decide, by decide, ?_, (fun h => nomatch h), fun _ => ⟨by decide, by decide, by decide, 1, by decide⟩⟩
  intro i h
  have h : i = 7 := by simpa [busy, sends, up, withPeer, contest, seated, State.updateSeat, sightings, clients, running, streams,
    State.setRu, State.setSv, State.setAu, State.setAnu, State.setRp, State.setRbc] using h
  subst h
  exact ⟨cached .active (some 3) [3, 4], by decide +kernel⟩

/-! ### Further clauses of the statements above -/

theorem witness_EveryCommandGoesOn :
    starting.sl.nodeState = .starting ∧ (up (from1 5 .leave) starting).rp.uplink.head? = some (from1 5 .leave) ∧
      (Message.matchState .closed).command 0 = some (.seatValidator, .matchStateClosed 0) ∧
      (rx 30 (.matchState .closed) starting).carries .seatValidator 30 (.matchState .closed) :=
  ⟨by decide, by decide, by decide, carries_of (by decide +kernel)⟩

theorem witness_ParametersLieInTheirRanges_bytes : recordA.length = 33 := by decide +kernel

/-- A SILENT node, and one whose modes are OFF and PERIODIC. -/
theorem witness_BoundaryAgesPeersAndSeats_modes :
    (let s := node.setSl { node.sl with nodeState := .silent };
      s.anu.nextBoundary = some 1000000 ∧ s.sl.nodeState = .silent) ∧
      let s := node.setSl { node.sl with params := some { par0 with presenceMode := .periodic, loadMode := .off } };
      s.anu.nextBoundary = some 1000000 ∧ s.sl.nodeState ≠ .silent ∧ s.par.loadMode = .off ∧ s.par.presenceMode = .periodic := by
  decide

/-- With this many notices pending. -/
def pendingNotices (n : Nat) (s : State) : State :=
  s.setAnu { s.anu with notices := (List.range n).map (fun i => { kind := .contestDefaulted, subject := i + 1 }) }

theorem witness_BuffersTakeTheirTurns_notices :
    ((node.anu.buffer .load).queued = false ∧ node.txCount < 16 ∧ 16 ≤ (sends 15 node).txCount ∧
      ((sends 15 node).anu.buffer .presence).queued = false) ∧
      (let n : Notice := { kind := .contestDefaulted, subject := 8 };
        n ∉ (pendingNotices 7 node).anu.notices ∧ (pendingNotices 7 node).anu.notices.length < 8 ∧
          n ∈ (pendingNotices 8 node).anu.notices ∧ 8 ≤ (pendingNotices 8 node).anu.notices.length) ∧
      (node.setSl { node.sl with nodeState := .silent }).sl.nodeState = .silent := by decide +kernel

/-- Each test of the claim check fails in turn, and then none. -/
theorem witness_HeardWithoutAnEntry_claimCheck :
    (∀ s ∈ [listening, clients (List.replicate 4 (entry 2 (.reserved 9 3000000))) node, full node,
        node.setSl { node.sl with params := some { par0 with claimFloor := 1010 } }, node],
      let s := withPeer (up (from1 9 .heard) s);
      s.sl.nodeState ≠ .starting ∧ s.rp.uplink.head? = some (from1 9 .heard) ∧ s.findEntry 1 = none ∧ s.findSighting 1 = none ∧
        s.au.sightings.length < 32) ∧
      (SightingStatus.backoff 5 ≠ .seen ∧ listening.sl.nodeState ≠ .running ∧ node.anu.peers = [] ∧
        4 ≤ (clients (List.replicate 4 (entry 2 (.reserved 9 3000000))) node).au.clients.countP ClientEntry.isReserved ∧
        (full node).par.limit ≤ (full node).au.clients.length ∧ servingScore (-240) 0 1 false < 1010) ∧
      (withPeer node).sl.nodeState = .running ∧ (withPeer node).anu.peers = [peer9] ∧ peer9.cls = .node ∧ peer9.status = .live ∧
        node.au.clients = [] ∧ node.par.claimFloor ≤ servingScore (-240) 0 1 false := by decide +kernel

/-- 32 sightings: client 12 the one heard longest ago of those SEEN, client 10 in BACKOFF; and 32 in BACKOFF. -/
theorem witness_HeardWithoutAnEntry_fullList :
    (let l : List Sighting :=
        (List.range 32).map (fun i =>
          { sighting (BitVec.ofNat 48 (i + 10)) (if i = 0 then .backoff 5 else .seen) with lastHeard := if i < 2 then 3 else 2 });
      let old : Sighting := { sighting 12 .seen with lastHeard := 2 };
      32 ≤ (sightings l node).au.sightings.length ∧ (sightings l node).findSighting 1 = none ∧ old ∈ l ∧ old.status = .seen ∧
        ∀ x ∈ l, x.status = .seen →
          old.lastHeard < x.lastHeard ∨ (old.lastHeard = x.lastHeard ∧ old.id.toNat ≤ x.id.toNat)) ∧
      let l : List Sighting := (List.range 32).map (fun i => sighting (BitVec.ofNat 48 (i + 10)) (.backoff 5));
      32 ≤ l.length ∧ ∀ x ∈ l, x.status ≠ .seen := by decide +kernel

/-- The record in use is HIGH, the new one HIGH or LOW, and three streams are held. -/
theorem witness_CapabilityPiecesAreAssembled_trim :
    ∀ high ∈ [(0 : Byte), 1],
      let e :=
        { entry 1 .associated with
          subscriptions := [12, 7, 40], record := some { maxSubscriptions := 3, tier := .high, bytes := [3, 1, 0, 0] } }
      let s := clients [e] (up (from1 5 (.capsPiece 0 true [2, high, 0, 0])) node);
      let v := (s.elapse 0).recordTaken.sample 1 (-60) 5;
      s.rp.uplink.head? = some (from1 5 (.capsPiece 0 true [2, high, 0, 0])) ∧
        (v.findEntry 1).map (fun e => (e.state, e.subscriptions, e.record.map (·.tier))) =
          some (.associated, [12, 7, 40], some .high) := by decide +kernel

theorem witness_SubscribingChangesListAndCount_lowered :
    (stream 7 .active (some 0) 2).subscribers = 2 ∧
      ∀ a ∈ [Activity.dormant, .joining, .active, .leaving], (stream 7 a none 1).subscribers ≤ 1 ∧ (stream 7 a none 1).activity = a := by
  decide

theorem witness_TokenForAnOwnSeatIsDecided_recorded :
    let b (n : Serial) : Binding := { seat := 1, serial := n, owner := 5 };
    (b 2).serial ∈ [b 1, b 2].map (·.serial) ∧ (b 4).serial ∉ [b 1, b 2, b 3].map (·.serial) ∧ [b 1, b 2, b 3].length < 4 ∧
      (b 5).serial ∉ [b 1, b 2, b 3, b 4].map (·.serial) ∧ 4 ≤ [b 1, b 2, b 3, b 4].length := by decide

theorem witness_SeatDecisionFollowsItsTable_present :
    ((clients [entry 1 (.roamIn 9 0)] node).findEntry 1 = some (entry 1 (.roamIn 9 0))) ∧
      (sightings [sighting 1 (.backoff 5)] node).findEntry 1 = none ∧
      (sightings [sighting 1 (.backoff 5)] node).findSighting 1 = some (sighting 1 (.backoff 5)) ∧ node.findSighting 1 = none := by
  decide

/-- The hold time of 120 s ends exactly now; answers from node 9, and an UNBLOCK of a seat that is not BLOCKED. -/
theorem witness_VerdictsEndTheContest_further :
    ((contest .held 1 5 node).findSeat 3).map (fun x => (x.state, x.heldSince)) = some (.contested .held (holder 1 1), 0) ∧
      0 + 10000000 * (contest .held 1 5 node).par.holdSeconds ≤ (contest .held 1 5 node).now + 1200000000 ∧
      (∀ y ∈ node.sv.seats, y.number = 3 → y.state ≠ .blocked) ∧
      (∀ v ∈ Verdict.table, ((Message.authorityAnswer 3 v).command 0).map (·.1) = some .seatValidator) ∧
      (rx 9 (.authorityAnswer 3 .unblock) node).carries .seatValidator 9 (.authorityAnswer 3 .unblock) :=
  ⟨by decide +kernel, by decide +kernel, by decide +kernel, by decide, carries_of (by decide +kernel)⟩

/-- Two clients that only their tickets keep, unheard for exactly 60 s. -/
theorem witness_MatchCloseClearsSeats_dropped :
    let l : List ClientEntry := [bound1 0, { bound1 0 with id := 2 }];
    (l.map (·.id)).Nodup ∧ (∀ e ∈ l, e.subscriptions.Nodup) ∧
      (∀ e ∈ l, e.state.counted = true ∧ e.bindings ≠ [] ∧ e.lastHeard + 600000000 ≤ 0 + 600000000) := by decide

/-- A grant from the gateway, and one for client 0. -/
theorem witness_ClaimIsDeniedOrGranted_discarded :
    ∀ x ∈ [(30, (1 : ClientId)), (0, 1), (9, 0)],
      let m := Message.roamGrant x.2 ⟨[], [7], none⟩;
      let s := rx x.1 m node;
      (m.command 0).map (·.1) = some .roamEngine ∧ s.oldestFor .roamEngine = some (frame x.1 5 m) ∧ (frame x.1 5 m).message = some m ∧
        ((frame x.1 5 m).source = 0 ∨ 30 ≤ (frame x.1 5 m).source ∨ clientAt (frame x.1 5 m).payload 0 = 0) := by decide +kernel

/-- Three bindings held and two more in the context: the first fills the list. -/
theorem witness_AwaitedContextIsMerged_bindings :
    let b (n : Serial) : Binding := { seat := 1, serial := n, owner := 5 };
    [b 1, b 2, b 3].length < 4 ∧ (b 4).serial ∉ [b 1, b 2, b 3].map (·.serial) ∧ (b 2).serial ∈ [b 1, b 2, b 3].map (·.serial) ∧
      4 ≤ [b 1, b 2, b 3, b 4].length ∧
      let e := { bound1 0 with contextWait := some { oldStation := 9, expiry := 10000000 } };
      let s := clients [e] (rx 9 (.contextReply 1 (some ⟨[b 4, b 5], [7], none⟩)) node);
      s.findEntry 1 = some e ∧ e.state = .associated ∧ e.contextWait = some { oldStation := 9, expiry := 10000000 } := by decide +kernel

theorem witness_streamAnnouncesDiscarded :
    (rx 9 (.streamAnnounce 7 .low .repeat .live) node).carries .replayUnit 9 (.streamAnnounce 7 .low .repeat .live) ∧
      (rx 30 (.streamAnnounce 0 .low .repeat .ended) node).carries .replayUnit 30 (.streamAnnounce 0 .low .repeat .ended) ∧
      (∀ x ∈ (List.range 16).map (fun i => stream (i + 1) .leaving (some 0) 0), x.activity ≠ .dormant) ∧
      16 ≤ ((List.range 16).map (fun i => stream (i + 1) .leaving (some 0) 0)).length :=
  ⟨carries_of (by decide +kernel), carries_of (by decide +kernel), by decide, by decide⟩

/-- A full queue, whose newest waiting NORMAL frame is an announcement or a forwarded token; the token waits for station 9. -/
theorem witness_HandOverAcceptsEvictsOrRefuses_reports :
    let forward := frameOf 9 (.tokenForward 1 (token 1 20));
    let s (g : TxFrame) : State :=
      let v := sends 14 (pendings [waiting 1 (token 1 20)] node);
      v.setRbc { v.rbc with txNormal := v.rbc.txNormal ++ [g] }
    (∀ g ∈ [forward, announcementFrame .harvest, announcementFrame .load],
      16 ≤ (s g).txCount ∧ (s g).rbc.txNormal = (sends 14 node).rbc.txNormal ++ [g]) ∧
      (s forward).findPending 1 (token 1 20).serial = some (waiting 1 (token 1 20)) ∧
      (waiting 1 (token 1 20)).destination = forward.destination ∧ (waiting 1 (token 1 20)).destination ≠ 30 ∧
      (frameOf 9 (.roamReturn 1)).urgent = true ∧ node.rbc.tx = .idle ∧ (sends 14 node).rbc.tx ≠ .idle ∧
      (sends 14 node).txCount < 16 ∧ (node.setSl { node.sl with nodeState := .silent }).sl.nodeState = .silent := by decide +kernel

/-! ### Radio records written out from 13.5 -/

/-- A CAPS_PIECE with index 2 and the last flag, a SUBSCRIBE off, a TOKEN; then one with client 0, one with serving cell 32, one too long. -/
theorem test_uplink_layouts :
    parseUplink [4, 0, 0, 0, 0, 0, 1, 0xC4, 5, 2, 1, 9, 8, 7, 6] = some (from1 5 (.capsPiece 2 true [9, 8, 7, 6])) ∧
      parseUplink [5, 0, 0, 0, 0, 0, 1, 0xC4, 31, 7, 0] = some (from1 31 (.subscribe 7 false)) ∧
      parseUplink [6, 0, 0, 0, 0, 0, 1, 0xC4, 0, 0, 0, 1, 2, 0x0B, 0xB9, 0x01, 0x9C, 0x03, 0xE7, 0xAB, 0xCD] =
        some (from1 0 (.token { serial := 258, matchCode := 3001, rowCode := 412, seat := 999, check := 0xABCD })) ∧
      parseUplink [1, 0, 0, 0, 0, 0, 0, 0xC4, 5] = none ∧ parseUplink [1, 0, 0, 0, 0, 0, 1, 0xC4, 32] = none ∧
      parseUplink [2, 0, 0, 0, 0, 0, 1, 0xC4, 5, 0] = none := by decide +kernel

/-- One record of each downlink kind. -/
theorem test_downlink_layouts :
    (Downlink.joinReply 0x010203040506 .full (some 11)).bytes = [1, 1, 2, 3, 4, 5, 6, 2, 11] ∧
      (Downlink.moveTo 1 9).bytes = [2, 0, 0, 0, 0, 0, 1, 9] ∧
      (Downlink.tokenReply 1 .held 258).bytes = [3, 0, 0, 0, 0, 0, 1, 2, 1, 2] ∧
      (Downlink.subscribeReply 1 7 .removed none).bytes = [4, 0, 0, 0, 0, 0, 1, 7, 6, 0xFF] ∧
      (Downlink.dropClient 1).bytes = [5, 0, 0, 0, 0, 0, 1] ∧
      (Downlink.airSlot 3 7 258 1 true false [0xAA, 0xBB]).bytes = [6, 3, 7, 1, 2, 1, 1, 0, 2, 0xAA, 0xBB] := by decide +kernel


/-! ## The manual's worked examples, one step each -/

/-- The state a command leaves, or the state before where it left none. -/
def after (c : Instr) (s : State) : State :=
  match exec c s with
  | .next t => t
  | .fault _ => s
  | .refused _ => s

/-- Section 1, "a capability change mid-stream": streams 12 (HIGH), 7 (LOW), 40 (HIGH); the last piece brings {2, LOW}. -/
theorem test_example_capability_change :
    let e :=
      { entry 1 .associated with
        subscriptions := [12, 7, 40], record := some { maxSubscriptions := 3, tier := .high, bytes := [3, 1, 0, 0] },
        assemblyNext := 2, assemblyBytes := [2, 0, 5, 5, 0, 0, 0, 0] };
    let high (i : StreamId) (g : Nat) := { stream i .active (some g) 2 with tier := .high };
    let t := after (.capsPiece 0)
      (streams [stream 7 .active (some 1) 2, high 12 0, high 40 2]
        (clients [e] (up (from1 5 (.capsPiece 2 true [0, 0, 0, 0])) node)));
    t.au.clients.map (·.subscriptions) = [[7]] ∧
      t.rp.downlink = [.subscribeReply 1 40 .removed none, .subscribeReply 1 12 .removed none] := by decide +kernel

/-- Section 1, "a full node at half-time": peers 11 to 16, of which 11 is the redirect. -/
theorem test_example_redirect :
    let peer (a u e : Nat) (status : PeerStatus) : PeerEntry :=
      { peer9 with station := a, status := status, load := some { occupancy := u, entries := e, limit := 40 } };
    (node.setAnu
      { node.anu with
        peers := [peer 11 62 38 .live, peer 12 40 40 .live, peer 14 5 10 .stale, { peer9 with station := 15, load := none },
                  peer 16 62 21 .live] }).redirect = some 11 := by decide +kernel

/-- Section 3.11, events 1 and 2: the scores 631 at B and 346 at A. -/
theorem test_example_roam_scores : servingScore (-232) 25 21 true = 631 ∧ servingScore (-269) 50 36 false = 346 := by decide

/-- Section 3.11, event 4: the replies that the ROAM_IN client gets, and the frame to station 7. -/
theorem test_example_activation :
    let e :=
      { entry 1 (.roamIn 7 20000000) with
        subscriptions := [12, 7], record := some { maxSubscriptions := 2, tier := .high, bytes := [2, 1, 0, 0] } };
    let t := after (.joinRequest 0)
      (streams [stream 7 .dormant none 0, { stream 12 .active (some 0) 5 with tier := .high },
          stream 30 .active (some 3) 1]
        (clients [e] (up (from1 7 .joinRequest) node)));
    t.rp.downlink =
        [.joinReply 1 .accepted none, .subscribeReply 1 12 .ok (some 0), .subscribeReply 1 7 .ok (some 1)] ∧
      t.rbc.tx.hand = some (frameOf 7 (.clientMoved 1 false)) ∧ t.ru.catalogue.map (·.subscribers) = [1, 6, 1] := by
  decide +kernel

/-- Section 4.7, token Y: decided at the own seat at once. -/
theorem test_example_token :
    let t := after (.token 0) (clients [{ entry 1 .associated with signal := -230 }] (offers (token 5100001 7) node));
    (t.findSeat 7).map (·.state) = some (.bound .occupied (holder 5100001 1)) ∧ t.rp.downlink = [.tokenReply 1 .accepted 7] ∧
      (t.counter .tokensAccepted).value = 1 := by decide +kernel

/-- Section 5.6, 520.1 s: another serial for an OCCUPIED seat. -/
theorem test_example_contest :
    let t := after (.tokenForward 0) (rx 9 (.tokenForward 2 (token 7305550 3)) (seated 3 (.bound .occupied (holder 4011872 1)) node));
    (t.findSeat 3).map (·.state) = some (.contested .occupied (holder 4011872 1)) ∧ (t.counter .contests).value = 1 ∧
      t.rbc.frames =
        [frameOf 30 (.authorityQuery 3 .doubleSale (holder 4011872 1) { serial := 7305550, client := 2, origin := 9 }),
          frameOf 9 (.tokenResult 2 7305550 3 .pending)] := by decide +kernel

/-- Section 6.8: what the ten arrivals find, in their order. -/
theorem test_example_segments :
    let finds (l : List Sequence) (q : Sequence) : Bool :=
      (streams [cached .active (some 65534) l] node).acceptsSegment 30 7 q 1 [0];
    let l : List Sequence := [65534, 65535, 0];
    finds l 2 = true ∧ finds (l ++ [2]) 65530 = false ∧ finds (l ++ [2]) 32766 = false ∧ finds (l ++ [2]) 0 = false ∧
      finds (l ++ [2]) 65533 = false ∧ finds (l ++ [2]) 1 = true ∧ finds (l ++ [1, 2]) 3 = true ∧
      finds (l ++ [1, 2, 3]) 4 = true ∧ finds (l ++ [1, 2, 3, 4]) 5 = false ∧ finds (l ++ [1, 2, 3, 4]) 32767 = false := by
  decide +kernel

/-- Section 7.8, slot 12: the second underrun of stream 77 in a row resyncs to 905. -/
theorem test_example_resync :
    let e := { cached .active (some 903) [905, 906] with fill := .skip, underrunRun := 1 };
    let t := after (.slotStart 0) (running none e 0);
    t.ru.catalogue.map (fun x => (x.next, x.underrunRun)) = [(some 905, 0)] ∧ t.rp.downlink = [] ∧
      (t.counter .underruns).value = 1 := by decide +kernel

/-- Section 8.6, the boundary at 1,000.1 s: PRESENCE and LOAD fill the queue, and the notice is refused. -/
theorem test_example_boundary :
    let s := sends 13 (buffers { armed := false, skippedLast := true, queued := false } node);
    let t := after (.announcementPeriodBoundary 1000000)
      (s.setAnu { s.anu with notices := [{ kind := .seatOverlap, subject := 12 }] });
    t.txCount = 16 ∧ t.anu.presence.queued = true ∧ t.anu.load.skippedLast = false ∧
      t.anu.notices = [{ kind := .seatOverlap, subject := 12 }] ∧ (t.counter .txLost).value = 1 := by decide +kernel

/-- Section 9.5, the sixth collision: the forward is lost, its client told, and the denial is in hand. -/
theorem test_example_sixth_collision :
    let denial := frameOf 9 (.roamDeny 1 .busy 0);
    let t := after (.txCollision 0)
      (pendings [waiting 1 (token 6220418 20)] (inAttempt (.message (.tokenForward 1 (token 6220418 20))) 5 [denial] []));
    t.rp.downlink = [.tokenReply 1 .tryAgain 20] ∧ t.sv.pendingTokens = [] ∧ t.rbc.tx = .defer denial 0 0 ∧
      (t.counter .txLost).value = 1 := by decide +kernel

/-- Section 10.8, event 5: the held reply takes the freed place, and the next transfer starts. -/
theorem test_example_held_reply :
    let held : Downlink := .subscribeReply 1 7 .ok (some 1);
    let t := after (.downlinkTransferComplete 0)
      (node.setRp
        { node.rp with
          downlink := List.replicate 16 (.dropClient 2), held := [held], ready := true,
          transfer := .sending (Downlink.dropClient 2).bytes });
    t.rp.downlink = List.replicate 15 (.dropClient 2) ++ [held] ∧ t.rp.held = [] ∧
      t.rp.transfer = .sending (Downlink.dropClient 2).bytes := by decide +kernel

/-- Section 11.8, the completion: RX 9..63 keeps 1, RX_BAD loses its flag, and the frame's own length count is kept. -/
theorem test_example_harvest :
    let put (a b : Counter) (v : Vector Counter 24) := (v.set 0 a).set 11 b;
    let bad : Counter := { value := 1048575, saturated := true };
    let s := inAttempt (.announcement .harvest) 1 [] [];
    let t := after (.txComplete 0)
      (s.setCb
        { counters := put { value := 41205, saturated := false } bad s.cb.counters,
          snapshot := put { value := 41204, saturated := false } bad s.cb.snapshot });
    t.counter .rx0 = { value := 1, saturated := false } ∧ t.counter .rxBad = { value := 0, saturated := false } ∧
      (t.counter .tx0).value = 1 ∧ t.cb.snapshot = CounterBank.zeros := by decide +kernel

end Sys2Proof.Tests
end

section
/-! SUPPORT. Smoothing against a steady reading (R22 to R25): what one sample does in each row of R25's table, and the value at which
S settles. -/

namespace Sys2Proof.Machine

theorem firstSample_range (rssi : Int) : -400 ≤ firstSample rssi ∧ firstSample rssi ≤ -80 := by
  unfold firstSample clampRssi
  omega

theorem smooth_eq (signal rssi : Int) : smooth signal rssi = signal + (firstSample rssi - signal) / 4 := rfl

theorem smooth_eq_add_fdiv (signal rssi : Int) :
    smooth signal rssi = signal + Int.fdiv (firstSample rssi - signal) 4 := by
  rw [Int.fdiv_eq_ediv_of_nonneg _ (by decide), smooth_eq]

/-! ## The rows of R25's table -/

theorem smooth_of_at_most_three_below {signal rssi : Int} (below : signal ≤ firstSample rssi)
    (short : firstSample rssi - signal ≤ 3) : smooth signal rssi = signal := by
  have := smooth_eq signal rssi
  omega

/-- A rising S leaves a gap of 3 or more. -/
theorem smooth_of_four_or_more_below {signal rssi : Int} (below : 4 ≤ firstSample rssi - signal) :
    signal + 1 ≤ smooth signal rssi ∧ smooth signal rssi ≤ firstSample rssi - 3 := by
  have := smooth_eq signal rssi
  omega

theorem smooth_of_four_to_seven_below {signal rssi : Int} (below : 4 ≤ firstSample rssi - signal)
    (near : firstSample rssi - signal ≤ 7) : smooth signal rssi = signal + 1 := by
  have := smooth_eq signal rssi
  omega

theorem smooth_of_above {signal rssi : Int} (above : firstSample rssi < signal) :
    firstSample rssi ≤ smooth signal rssi ∧ smooth signal rssi ≤ signal - 1 := by
  have := smooth_eq signal rssi
  omega

theorem smooth_of_one_to_four_above {signal rssi : Int} (near : -4 ≤ firstSample rssi - signal)
    (above : firstSample rssi - signal ≤ -1) : smooth signal rssi = signal - 1 := by
  have := smooth_eq signal rssi
  omega

theorem smooth_of_five_or_more_above {signal rssi : Int} (above : firstSample rssi - signal ≤ -5) :
    smooth signal rssi ≤ signal - 2 := by
  have := smooth_eq signal rssi
  omega

/-- The three ways S can lie to 4r: S rises, rests or falls (R25). -/
theorem signal_rises_or_rests_or_falls (signal rssi : Int) :
    4 ≤ firstSample rssi - signal ∨
      (signal ≤ firstSample rssi ∧ firstSample rssi - signal ≤ 3) ∨ firstSample rssi < signal := by
  omega

/-- S after a sample lies between its old value and 4r (R24). -/
theorem smooth_between (signal rssi : Int) :
    min signal (firstSample rssi) ≤ smooth signal rssi ∧ smooth signal rssi ≤ max signal (firstSample rssi) := by
  obtain rises | ⟨below, short⟩ | falls := signal_rises_or_rests_or_falls signal rssi
  · have := smooth_of_four_or_more_below rises
    omega
  · have := smooth_of_at_most_three_below below short
    omega
  · have := smooth_of_above falls
    omega

theorem smooth_range {signal : Int} (rssi : Int) (low : -400 ≤ signal) (high : signal ≤ -80) :
    -400 ≤ smooth signal rssi ∧ smooth signal rssi ≤ -80 := by
  have := smooth_between signal rssi
  have := firstSample_range rssi
  omega

/-! ## The settling point -/

/-- Where S comes to rest under a steady reading: 4r from above, 4r − 3 from 3 or more below, and S itself between the two (R25). -/
def settlingPoint (signal rssi : Int) : Int := min (firstSample rssi) (max signal (firstSample rssi - 3))

theorem settlingPoint_of_above {signal rssi : Int} (above : firstSample rssi ≤ signal) :
    settlingPoint signal rssi = firstSample rssi := by
  unfold settlingPoint
  omega

theorem settlingPoint_of_three_or_more_below {signal rssi : Int} (below : 3 ≤ firstSample rssi - signal) :
    settlingPoint signal rssi = firstSample rssi - 3 := by
  unfold settlingPoint
  omega

theorem settlingPoint_of_at_most_three_below {signal rssi : Int} (below : signal ≤ firstSample rssi)
    (short : firstSample rssi - signal ≤ 3) : settlingPoint signal rssi = signal := by
  unfold settlingPoint
  omega

theorem settlingPoint_range (signal rssi : Int) :
    firstSample rssi - 3 ≤ settlingPoint signal rssi ∧ settlingPoint signal rssi ≤ firstSample rssi := by
  unfold settlingPoint
  omega

/-- The settling point lies between S and 4r, so S is no further from it than from 4r. -/
theorem abs_sub_settlingPoint_le (signal rssi : Int) :
    |signal - settlingPoint signal rssi| ≤ |signal - firstSample rssi| := by
  have between : settlingPoint signal rssi ∈ Set.uIcc signal (firstSample rssi) := by
    rw [Set.mem_uIcc, settlingPoint]
    omega
  rw [abs_sub_comm, abs_sub_comm signal (firstSample rssi)]
  exact Set.abs_sub_left_of_mem_uIcc between

theorem settlingPoint_smooth (signal rssi : Int) :
    settlingPoint (smooth signal rssi) rssi = settlingPoint signal rssi := by
  obtain rises | ⟨below, short⟩ | falls := signal_rises_or_rests_or_falls signal rssi
  · have := smooth_of_four_or_more_below rises
    rw [settlingPoint_of_three_or_more_below (signal := signal) (by omega), settlingPoint_of_three_or_more_below (by omega)]
  · rw [smooth_of_at_most_three_below below short]
  · obtain ⟨stillAbove, -⟩ := smooth_of_above falls
    rw [settlingPoint_of_above falls.le, settlingPoint_of_above stillAbove]

/-- Each sample brings S at least 1 nearer to its settling point. -/
theorem smooth_nearer_settlingPoint {signal rssi : Int} {n : Nat}
    (near : |signal - settlingPoint signal rssi| ≤ (n + 1 : Nat)) :
    |smooth signal rssi - settlingPoint signal rssi| ≤ n := by
  rw [abs_le] at near ⊢
  obtain rises | ⟨below, short⟩ | falls := signal_rises_or_rests_or_falls signal rssi
  · have := smooth_of_four_or_more_below rises
    rw [settlingPoint_of_three_or_more_below (by omega)] at near ⊢
    omega
  · rw [settlingPoint_of_at_most_three_below below short, smooth_of_at_most_three_below below short]
    omega
  · have := smooth_of_above falls
    rw [settlingPoint_of_above falls.le] at near ⊢
    omega

/-- S has settled after as many samples as it is quarter-dB away from its settling point. -/
theorem iterate_smooth_eq_settlingPoint (rssi : Int) (n : Nat) (signal : Int)
    (near : |signal - settlingPoint signal rssi| ≤ n) :
    (fun x => smooth x rssi)^[n] signal = settlingPoint signal rssi := by
  induction n generalizing signal with
  | zero =>
    rw [Function.iterate_zero_apply]
    exact sub_eq_zero.mp (abs_nonpos_iff.mp near)
  | succ n ih =>
    rw [Function.iterate_succ_apply, ← settlingPoint_smooth signal rssi]
    apply ih
    rw [settlingPoint_smooth]
    exact smooth_nearer_settlingPoint near

theorem iterate_smooth_of_at_most_three_below {signal rssi : Int} (below : signal ≤ firstSample rssi)
    (short : firstSample rssi - signal ≤ 3) (n : Nat) : (fun x => smooth x rssi)^[n] signal = signal :=
  Function.iterate_fixed (f := fun x => smooth x rssi) (smooth_of_at_most_three_below below short) n

theorem iterate_smooth_of_three_or_more_below {signal rssi : Int} (below : 3 ≤ firstSample rssi - signal) (n : Nat)
    (enough : firstSample rssi - signal - 3 ≤ n) : (fun x => smooth x rssi)^[n] signal = firstSample rssi - 3 := by
  have settles := settlingPoint_of_three_or_more_below below
  rw [iterate_smooth_eq_settlingPoint rssi n signal (by rw [settles, abs_le]; omega), settles]

theorem iterate_smooth_of_above {signal rssi : Int} (above : firstSample rssi ≤ signal) (n : Nat)
    (enough : signal - firstSample rssi ≤ n) : (fun x => smooth x rssi)^[n] signal = firstSample rssi := by
  have settles := settlingPoint_of_above above
  rw [iterate_smooth_eq_settlingPoint rssi n signal (by rw [settles, abs_le]; omega), settles]

/-- Settled signals lie within the 3 quarter-dB below 4r, whichever side each came from (R25). -/
theorem abs_iterate_smooth_sub_le (signal rssi other : Int) (n : Nat) (near : |signal - firstSample rssi| ≤ n)
    (nearOther : |other - firstSample rssi| ≤ n) :
    |(fun x => smooth x rssi)^[n] signal - (fun x => smooth x rssi)^[n] other| ≤ 3 := by
  rw [iterate_smooth_eq_settlingPoint rssi n signal ((abs_sub_settlingPoint_le signal rssi).trans near),
    iterate_smooth_eq_settlingPoint rssi n other ((abs_sub_settlingPoint_le other rssi).trans nearOther), abs_le]
  have := settlingPoint_range signal rssi
  have := settlingPoint_range other rssi
  omega

end Sys2Proof.Machine

open Sys2Proof Sys2Proof.Machine

/-- Settles O52: R25's table row by row, and the settling point for what repeated samples come to. The statement's 4r is
`firstSample rssi` written out. -/
theorem smoothingSettles : Obligations.SmoothingSettles := by
  intro signal rssi
  refine ⟨smooth_eq_add_fdiv signal rssi, (smooth_between signal rssi).1, (smooth_between signal rssi).2, smooth_range rssi,
    iterate_smooth_of_at_most_three_below, ?_, smooth_of_one_to_four_above, smooth_of_five_or_more_above,
    abs_iterate_smooth_sub_le signal rssi, iterate_smooth_of_three_or_more_below, iterate_smooth_of_above⟩
  intro below near
  have rises := smooth_of_four_to_seven_below below near
  omega

end

section
/-! SUPPORT. The serving score as the sum of its terms, and their ranges (R28, R31). -/

namespace Sys2Proof.Machine

/-! ## The home term (R31) -/

theorem SeatState.homeFor_iff (st : SeatState) (c : ClientId) :
    st.homeFor c = true ↔ ∃ state holder, st = .bound state holder ∧ holder.client = c := by
  cases st <;> simp [SeatState.homeFor]

theorem State.home_iff (s : State) (c : ClientId) :
    s.home c = true ↔ ∃ x ∈ s.sv.seats, ∃ st b, x.state = .bound st b ∧ b.client = c := by
  simp only [State.home, List.any_eq_true, SeatState.homeFor_iff]

/-! ## The terms (R28) -/

/-- Sig, from S in quarter-dB. -/
def signalTerm (signal : Int) : Int := 2 * (signal + 400)

/-- P, from the occupancy U and the entry count E. -/
def loadTerm (occupancy entries : Nat) : Int := 3 * occupancy + 4 * max 0 ((entries : Int) - 32)

/-- H, from the Seat Validator's answer. -/
def homeTerm (home : Bool) : Int := if home then 120 else 0

theorem signalTerm_range {signal : Int} (low : -400 ≤ signal) (high : signal ≤ -80) :
    0 ≤ signalTerm signal ∧ signalTerm signal ≤ 640 := by
  unfold signalTerm
  omega

theorem loadTerm_range {occupancy entries : Nat} (busy : occupancy ≤ 100) (full : entries ≤ 48) :
    0 ≤ loadTerm occupancy entries ∧ loadTerm occupancy entries ≤ 364 := by
  unfold loadTerm
  omega

theorem loadTerm_idle {entries : Nat} (few : entries ≤ 32) : loadTerm 0 entries = 0 := by
  unfold loadTerm
  omega

theorem homeTerm_range (home : Bool) : 0 ≤ homeTerm home ∧ homeTerm home ≤ 120 := by
  cases home <;> decide

/-! ## The score -/

/-- The model's load is a natural number whose E − 32 stops at 0; the manual's P has the maximum written out. -/
theorem servingScore_eq_max (signal : Int) (occupancy entries : Nat) (home : Bool) :
    (servingScore signal occupancy entries home : Int) =
      max 0 (signalTerm signal - loadTerm occupancy entries + homeTerm home + 250) := by
  have load : ((3 * occupancy + 4 * (entries - 32) : Nat) : Int) = loadTerm occupancy entries := by
    unfold loadTerm
    omega
  rw [servingScore, load, Int.toNat_eq_max, max_comm]
  rfl

theorem State.scoreOf_eq_max (s : State) (e : ClientEntry) :
    (s.scoreOf e : Int) =
      max 0 (signalTerm e.signal - loadTerm s.ru.occupancy s.au.clients.length + homeTerm (s.home e.id) + 250) :=
  servingScore_eq_max _ _ _ _

theorem servingScore_le {signal : Int} {occupancy entries : Nat} (home : Bool) (high : signal ≤ -80) :
    servingScore signal occupancy entries home ≤ 1010 := by
  have sum := servingScore_eq_max signal occupancy entries home
  have home_le := homeTerm_range home
  unfold signalTerm loadTerm at sum
  omega

theorem servingScore_strongest_idle {entries : Nat} (few : entries ≤ 32) : servingScore (-80) 0 entries true = 1010 := by
  have sum : (servingScore (-80) 0 entries true : Int) = 1010 := by
    rw [servingScore_eq_max, loadTerm_idle few]
    decide
  exact_mod_cast sum

theorem servingScore_weakest_loaded : servingScore (-400) 100 48 false = 0 := by decide

end Sys2Proof.Machine

open Sys2Proof Sys2Proof.Machine

/-- Settles O53: the score is the clamped sum of three terms, and each of its bounds comes from the terms' ranges. -/
theorem servingScoreIsTheSum : Obligations.ServingScoreIsTheSum := by
  intro s e
  refine ⟨s.scoreOf_eq_max e, s.home_iff e.id, ?ranges, ?strongest, ?weakest⟩
  case ranges =>
    intro low high busy full
    obtain ⟨sigLow, sigHigh⟩ := signalTerm_range low high
    obtain ⟨loadLow, loadHigh⟩ := loadTerm_range busy full
    obtain ⟨homeLow, -⟩ := homeTerm_range (s.home e.id)
    have lowest : -114 ≤ signalTerm e.signal - loadTerm s.ru.occupancy s.au.clients.length + homeTerm (s.home e.id) + 250 := by
      omega
    exact ⟨sigLow, sigHigh, loadLow, loadHigh, lowest, servingScore_le _ high⟩
  case strongest =>
    intro signal idle few home
    rw [State.scoreOf, signal, idle, home, servingScore_strongest_idle few]
  case weakest =>
    intro signal loaded full home
    rw [State.scoreOf, signal, loaded, full, home, servingScore_weakest_loaded]

end

section
/-! SUPPORT. The hand-over of a reply (R177): one equation for each of its three outcomes. -/

namespace Sys2Proof.Machine

/-! ## The downlink queue -/

/-- A record keeps its place in the queue until its transfer completes (R178). -/
@[simp] theorem State.startTransfer_downlink (s : State) : s.startTransfer.rp.downlink = s.rp.downlink := by
  obtain same | ⟨_, _, -, -, -, starts⟩ := s.startTransfer_cases
  · rw [same]
  · rw [starts, State.setRp_rp]

@[simp] theorem State.startTransfer_held (s : State) : s.startTransfer.rp.held = s.rp.held := by
  obtain same | ⟨_, _, -, -, -, starts⟩ := s.startTransfer_cases
  · rw [same]
  · rw [starts, State.setRp_rp]

@[simp] theorem State.enqueueDownlink_downlink (s : State) (r : Downlink) :
    (s.enqueueDownlink r).rp.downlink = s.rp.downlink ++ [r] :=
  State.startTransfer_downlink _

@[simp] theorem State.enqueueDownlink_held (s : State) (r : Downlink) : (s.enqueueDownlink r).rp.held = s.rp.held :=
  State.startTransfer_held _

theorem State.downlinkRoom_iff (s : State) : s.downlinkRoom = true ↔ s.rp.downlink.length < downlinkPlaces :=
  decide_eq_true_iff

/-! ## The outcomes -/

theorem State.handReply_eq_enqueueDownlink {s : State} (none_held : s.rp.held = [])
    (room : s.rp.downlink.length < downlinkPlaces) (r : Downlink) : s.handReply r = s.enqueueDownlink r := by
  have queues : (s.rp.held.isEmpty && s.downlinkRoom) = true := by
    rw [Bool.and_eq_true, List.isEmpty_iff, s.downlinkRoom_iff]
    exact ⟨none_held, room⟩
  rw [State.handReply, if_pos queues]

/-- A held reply keeps a new one out of the queue whatever room it has (R177). -/
theorem State.not_queues {s : State} (waits : s.rp.held ≠ [] ∨ downlinkPlaces ≤ s.rp.downlink.length) :
    ¬ (s.rp.held.isEmpty && s.downlinkRoom) = true := by
  rw [Bool.and_eq_true, List.isEmpty_iff, s.downlinkRoom_iff, not_and_or, not_lt]
  exact waits

theorem State.handReply_eq_hold {s : State} (waits : s.rp.held ≠ [] ∨ downlinkPlaces ≤ s.rp.downlink.length)
    (place : s.rp.held.length < heldPlaces) (r : Downlink) :
    s.handReply r = s.setRp { s.rp with held := s.rp.held ++ [r] } := by
  rw [State.handReply, if_neg (State.not_queues waits), if_pos place]

theorem State.handReply_eq_lost {s : State} (full : heldPlaces ≤ s.rp.held.length) (r : Downlink) :
    s.handReply r = s.count .replyLost := by
  have some_held : s.rp.held ≠ [] := List.ne_nil_of_length_pos (lt_of_lt_of_le (by decide) full)
  rw [State.handReply, if_neg (State.not_queues (.inl some_held)), if_neg full.not_gt]

end Sys2Proof.Machine

open Sys2Proof Sys2Proof.Machine

/-- Settles O50: R177's table row by row, with the first held reply as the case of an empty list. -/
theorem replyIsQueuedHeldOrLost : Obligations.ReplyIsQueuedHeldOrLost := by
  intro s r
  refine ⟨?queued, ?firstHeld, fun some_held place => State.handReply_eq_hold (.inl some_held) place r,
    fun full => State.handReply_eq_lost full r⟩
  case queued =>
    intro none_held room
    rw [State.handReply_eq_enqueueDownlink none_held room]
    exact ⟨rfl, s.enqueueDownlink_downlink r, (s.enqueueDownlink_held r).trans none_held⟩
  case firstHeld =>
    intro none_held full
    have place : s.rp.held.length < heldPlaces := by
      rw [none_held]
      decide
    rw [State.handReply_eq_hold (.inr full) place, none_held, List.nil_append]

end

section
/-! SUPPORT. An increment as a change of the counter bank and of the HARVEST buffer's armed flag alone (R184 to R186), and why two
increments commute: each part of the change commutes, and no increment reads what another counter's increment writes. -/

namespace Sys2Proof.Machine

/-- No two counters share an index (section 11.2). -/
theorem CounterId.index_injective : Function.Injective CounterId.index :=
  Function.LeftInverse.injective (g := fun i => CounterId.ofNat i.val) fun k => by cases k <;> rfl

theorem CounterId.index_val_ne {j k : CounterId} (other : j ≠ k) : j.index.val ≠ k.index.val :=
  fun same => other (CounterId.index_injective (Fin.ext same))

/-! ## The counter bank (R184) -/

/-- The bank with one counter bumped; the snapshot is not touched. -/
def CounterBank.bump (b : CounterBank) (k : CounterId) : CounterBank :=
  { b with counters := b.counters.set k.index.val (b.counters.get k.index).bump k.index.isLt }

@[simp] theorem CounterBank.bump_snapshot (b : CounterBank) (k : CounterId) : (b.bump k).snapshot = b.snapshot := rfl

@[simp] theorem CounterBank.bump_get_self (b : CounterBank) (k : CounterId) :
    (b.bump k).counters.get k.index = (b.counters.get k.index).bump :=
  Vector.getElem_set_self k.index.isLt

theorem CounterBank.bump_get_other (b : CounterBank) {j k : CounterId} (other : j ≠ k) :
    (b.bump k).counters.get j.index = b.counters.get j.index :=
  Vector.getElem_set_ne k.index.isLt j.index.isLt (CounterId.index_val_ne other.symm)

/-- Increments of different counters write different places of the bank. -/
theorem CounterBank.bump_comm (b : CounterBank) {j k : CounterId} (other : j ≠ k) :
    (b.bump k).bump j = (b.bump j).bump k := by
  have kept := bump_get_other b other
  have keptBack := bump_get_other b other.symm
  simp only [CounterBank.bump] at kept keptBack ⊢
  rw [kept, keptBack, Vector.set_comm _ _ (CounterId.index_val_ne other.symm)]

/-! ## The HARVEST buffer (R186) -/

/-- The announcement state after a threshold test: arming only ever adds to the armed flag. -/
def Announcement.armHarvestIf (a : Announcement) (reached : Bool) : Announcement :=
  { a with harvest := { a.harvest with armed := a.harvest.armed || reached } }

theorem Announcement.armHarvestIf_decide (a : Announcement) (reached : Prop) [Decidable reached] :
    a.armHarvestIf (decide reached) = if reached then { a with harvest := { a.harvest with armed := true } } else a := by
  split_ifs with h
  · rw [armHarvestIf, decide_eq_true h, Bool.or_true]
  · rw [armHarvestIf, decide_eq_false h, Bool.or_false]

theorem Announcement.armHarvestIf_comm (a : Announcement) (p q : Bool) :
    (a.armHarvestIf p).armHarvestIf q = (a.armHarvestIf q).armHarvestIf p := by
  simp only [armHarvestIf, Bool.or_right_comm]

/-! ## An increment -/

/-- The counter's next increment leaves it at the threshold or above (R186). -/
def State.reachesThreshold (s : State) (k : CounterId) : Bool := decide (harvestThreshold ≤ (s.counter k).bump.value)

theorem State.count_of_masked {s : State} {k : CounterId} (masked : s.masked k = true) : s.count k = s := by
  rw [State.count, if_pos masked]

theorem State.count_of_unmasked {s : State} {k : CounterId} (counts : s.masked k = false) :
    s.count k = (s.setCb (s.cb.bump k)).setAnu (s.anu.armHarvestIf (s.reachesThreshold k)) := by
  obtain ⟨masked, -⟩ | ⟨-, reached, arms⟩ | ⟨-, below, bumps⟩ := s.count_cases k
  · exact absurd masked (by rw [counts]; decide)
  · rw [arms, State.reachesThreshold, Announcement.armHarvestIf_decide, if_pos reached]
    rfl
  · rw [bumps, State.reachesThreshold, Announcement.armHarvestIf_decide, if_neg below.not_ge]
    rfl

@[simp] theorem State.count_masked (s : State) (k j : CounterId) : (s.count k).masked j = s.masked j := by
  simp [State.masked, State.par]

theorem State.count_cb {s : State} {k : CounterId} (counts : s.masked k = false) : (s.count k).cb = s.cb.bump k := by
  rw [State.count_of_unmasked counts, State.setAnu_cb, State.setCb_cb]

theorem State.count_anu {s : State} {k : CounterId} (counts : s.masked k = false) :
    (s.count k).anu = s.anu.armHarvestIf (s.reachesThreshold k) := by
  rw [State.count_of_unmasked counts, State.setAnu_anu]

theorem State.count_counter_self {s : State} {k : CounterId} (counts : s.masked k = false) :
    (s.count k).counter k = (s.counter k).bump := by
  rw [State.counter, State.count_cb counts, CounterBank.bump_get_self, State.counter]

theorem State.count_counter_other {s : State} {j k : CounterId} (counts : s.masked k = false) (other : j ≠ k) :
    (s.count k).counter j = s.counter j := by
  rw [State.counter, State.count_cb counts, CounterBank.bump_get_other _ other, State.counter]

/-- An increment does not read what another counter's increment writes. -/
theorem State.count_reachesThreshold_other {s : State} {j k : CounterId} (counts : s.masked k = false) (other : j ≠ k) :
    (s.count k).reachesThreshold j = s.reachesThreshold j := by
  rw [State.reachesThreshold, State.count_counter_other counts other, State.reachesThreshold]

theorem State.count_count_of_unmasked {s : State} {j k : CounterId} (countsK : s.masked k = false)
    (countsJ : s.masked j = false) (other : j ≠ k) :
    (s.count k).count j =
      (s.setCb ((s.cb.bump k).bump j)).setAnu
        ((s.anu.armHarvestIf (s.reachesThreshold k)).armHarvestIf (s.reachesThreshold j)) := by
  have stillCounts : (s.count k).masked j = false := (s.count_masked k j).trans countsJ
  rw [State.count_of_unmasked stillCounts, State.count_reachesThreshold_other countsK other, State.count_cb countsK,
    State.count_anu countsK, State.count_of_unmasked countsK]
  rfl

/-- Increments give the same result in any order (R184). -/
theorem State.count_comm (s : State) (k j : CounterId) : (s.count k).count j = (s.count j).count k := by
  by_cases same : j = k
  · rw [same]
  cases maskedK : s.masked k with
  | true => rw [State.count_of_masked maskedK, State.count_of_masked ((s.count_masked j k).trans maskedK)]
  | false =>
    cases maskedJ : s.masked j with
    | true => rw [State.count_of_masked maskedJ, State.count_of_masked ((s.count_masked k j).trans maskedJ)]
    | false =>
      rw [State.count_count_of_unmasked maskedK maskedJ same, State.count_count_of_unmasked maskedJ maskedK (Ne.symm same),
        CounterBank.bump_comm _ same, Announcement.armHarvestIf_comm]

end Sys2Proof.Machine

open Sys2Proof Sys2Proof.Machine

/-- Settles O51: an unmasked increment is one bump of the bank and one threshold test; the statement writes both out. -/
theorem incrementRaisesOneCounter : Obligations.IncrementRaisesOneCounter := by
  intro s k
  refine ⟨State.count_of_masked, ?unmasked, s.count_comm k⟩
  case unmasked =>
    intro counts
    refine ⟨State.count_counter_self counts, fun j other => State.count_counter_other counts other, ?snapshot, ?arms, ?frame⟩
    case snapshot => rw [State.count_cb counts, CounterBank.bump_snapshot]
    case arms =>
      rw [State.count_anu counts, State.reachesThreshold, Announcement.armHarvestIf_decide]
      rfl
    case frame => rw [State.count_cb counts, State.count_anu counts, State.count_of_unmasked counts]

end

section
/-! SUPPORT. What a step can do, said once: the elementary changes (moves) of the node, grouped by the blocks they touch, each with
what the model knows when it makes it. Every command is a run of moves (the traversal below), so that an invariant which each move
keeps is kept by every step. -/

namespace Sys2Proof.Machine

/-! ## The radio link -/

inductive RadioMove (s : State) : State → Prop
  | queue (r : Downlink) (room : s.rp.downlink.length < downlinkPlaces) : RadioMove s (s.enqueueDownlink r)
  | hold (r : Downlink) (waits : s.rp.held ≠ [] ∨ downlinkPlaces ≤ s.rp.downlink.length)
      (place : s.rp.held.length < heldPlaces) : RadioMove s (s.setRp { s.rp with held := s.rp.held ++ [r] })
  | taken : RadioMove s s.recordTaken
  | arrival (r : UplinkRecord) (place : s.rp.uplink.length < uplinkPlaces) :
      RadioMove s (s.setRp { s.rp with uplink := s.rp.uplink ++ [r] })
  | ready : RadioMove s (s.setRp { s.rp with ready := true }).startTransfer
  | withdrawn : RadioMove s (s.setRp { s.rp with ready := false })
  | completed (bytes : List Byte) (transfer : s.rp.transfer = .sending bytes) :
      RadioMove s (s.setRp s.rp.completed).startTransfer

/-! ## The counters -/

inductive CounterMove (s : State) : State → Prop
  | count (k : CounterId) : CounterMove s (s.count k)
  | reset : CounterMove s (s.setCb { counters := CounterBank.zeros, snapshot := CounterBank.zeros })
  | snapshot (due : s.anu.nextBoundary ≠ none) : CounterMove s s.takeSnapshot

/-! ## The row bus -/

/-- What a lost frame changes besides its pending token: an announcement's queued flag and the snapshot (R150, R159, R190). -/
def State.clearLost (s : State) (f : TxFrame) : State :=
  match f.body with
  | .announcement .harvest => (s.setQueued .harvest false).zeroSnapshot
  | .announcement k => s.setQueued k false
  | .message _ => s

/-- The node hands frames over (R157). -/
def State.transmits (s : State) : Prop := ¬ (s.sl.nodeState = .silent ∨ s.sl.nodeState = .starting)

/-- The line is quiet from now. -/
def State.quieted (s : State) : State := s.setRbc { s.rbc with quietSince := some s.now }

inductive BusMove (s : State) : State → Prop
  | accept (f : TxFrame) (transmits : s.transmits) (room : s.txCount < txPlaces)
      (single : ∀ k, f.body = .announcement k → (s.anu.buffer k).queued = false) : BusMove s (s.acceptFrame f)
  | exchange (f old : TxFrame) (front : List TxFrame) (transmits : s.transmits) (urgent : f.urgent = true)
      (waits : s.rbc.txNormal = front ++ [old]) :
      BusMove s (((s.setRbc { s.rbc with txNormal := front }).clearLost old).acceptFrame f)
  | lose (f : TxFrame) (n : Nat) (wire : List Byte) (attempt : s.rbc.tx = .sending f n wire) :
      BusMove s (s.clearLost f).nextFrame
  | complete (f : TxFrame) (n : Nat) (wire : List Byte) (k : CounterId) (attempt : s.rbc.tx = .sending f n wire) :
      BusMove s ((s.reportCompletion f).count k).quieted.nextFrame
  | line (b : RowBus) (hand : b.tx.hand = s.rbc.tx.hand)
      (attempts : b.tx.attempts < lastAttempt ∨ b.tx.attempts = s.rbc.tx.attempts) (urgent : b.txUrgent = s.rbc.txUrgent)
      (normal : b.txNormal = s.rbc.txNormal) (received : b.rxQueue = s.rbc.rxQueue) : BusMove s (s.setRbc b)
  | store (f : RxFrame) (place : s.rbc.rxQueue.length < rxPlaces) (foreign : s.isOwn f.source = false) :
      BusMove s (s.setRbc { s.rbc with rxQueue := s.rbc.rxQueue ++ [f] })
  | release (b : Block) : BusMove s (s.released b)

/-! ## Peers, notices and the announcement buffers -/

inductive PeerMove (s : State) : State → Prop
  | edit (g : PeerEntry → Option PeerEntry)
      (keeps : ∀ p q, g p = some q → q.station = p.station ∧ (p.ordered → q.ordered)) :
      PeerMove s (s.setAnu { s.anu with peers := s.anu.peers.filterMap g })
  | put (p : PeerEntry) (heard : ∃ f ∈ s.rbc.rxQueue, f.source = p.station)
      (ordered : (∀ q, s.findPeer p.station = some q → q.ordered) → p.ordered) : PeerMove s (s.putPeer p)
  | arm (k : NoticeKind) (n : Nat) : PeerMove s (s.armNotice k n)
  | sent (n : Notice) : PeerMove s (s.setAnu { s.anu with notices := s.anu.notices.filter (fun x => x != n) })
  | flags (a : Announcement) (peers : a.peers = s.anu.peers) (notices : a.notices = s.anu.notices)
      (boundary : a.nextBoundary = s.anu.nextBoundary)
      (queued : ∀ k, (a.buffer k).queued = (s.anu.buffer k).queued) : PeerMove s (s.setAnu a)

/-! ## Seats -/

/-- A changed seat record that stays (or stops being) contested as it was, and holds no serial that it did not hold. -/
structure SeatRecord.Tame (r r' : SeatRecord) : Prop where
  number : r'.number = r.number
  contested : r'.state.isContested = r.state.isContested
  holder : ∀ h', r'.state.holder = some h' → ∃ h, r.state.holder = some h ∧ h.serial = h'.serial

/-- The serial neither binds nor challenges for a seat other than `n` (R74). -/
def SeatValidator.Free (v : SeatValidator) (n : Seat) (serial : Serial) : Prop :=
  (∀ r ∈ v.seats, r.number ≠ n → ∀ h, r.state.holder = some h → h.serial ≠ serial) ∧
    ∀ a ∈ v.authority, a.seat ≠ n → a.challenger.serial ≠ serial

/-- The seat table with one seat's records changed. -/
def changeSeat (n : Seat) (f : SeatRecord → SeatRecord) (seats : List SeatRecord) : List SeatRecord :=
  seats.map (fun r => if r.number == n then f r else r)

inductive SeatMove (running : Prop) (v : SeatValidator) : SeatValidator → Prop
  | matchState (m : MatchState) : SeatMove running v { v with matchState := m }
  | clear : SeatMove running v { v with seats := v.seats.map SeatRecord.vacated, authority := [] }
  | settled (l : List PendingToken) (some_of : l.Sublist v.pendingTokens) : SeatMove running v { v with pendingTokens := l }
  | pend (p : PendingToken) (runs : running) (place : v.pendingTokens.length < pendingPlaces)
      (new : ∀ q ∈ v.pendingTokens, q.matches p.client p.token.serial = false) :
      SeatMove running v { v with pendingTokens := v.pendingTokens ++ [p] }
  | retarget (f : PendingToken → PendingToken)
      (keeps : ∀ p, ((f p).client, (f p).token.serial) = (p.client, p.token.serial)) :
      SeatMove running v { v with pendingTokens := v.pendingTokens.map f }
  | requery (n : Seat) (a a' : AuthorityEntry) (found : v.authority.find? (fun a => a.seat == n) = some a)
      (seat : a'.seat = a.seat) (challenger : a'.challenger = a.challenger) :
      SeatMove running v { v with authority := v.authority.map (fun x => if x.seat == n then a' else x) }
  | seats (f : SeatRecord → SeatRecord) (tame : ∀ r, SeatRecord.Tame r (f r)) :
      SeatMove running v { v with seats := v.seats.map f }
  | seat (n : Seat) (r : SeatRecord) (f : SeatRecord → SeatRecord)
      (found : v.seats.find? (fun r => r.number == n) = some r) (number : ∀ r, (f r).number = r.number)
      (tame : SeatRecord.Tame r (f r)) : SeatMove running v { v with seats := changeSeat n f v.seats }
  | bind (n : Seat) (r : SeatRecord) (f : SeatRecord → SeatRecord) (st : BoundState) (h : Holder)
      (found : v.seats.find? (fun r => r.number == n) = some r) (vacant : r.state = .vacant)
      (number : ∀ r, (f r).number = r.number) (bound : (f r).state = .bound st h) (free : v.Free n h.serial) :
      SeatMove running v { v with seats := changeSeat n f v.seats }
  | contest (r : SeatRecord) (st : BoundState) (b : Holder) (a : AuthorityEntry) (runs : running)
      (found : v.seats.find? (fun r => r.number == a.seat) = some r) (bound : r.state = .bound st b)
      (place : v.authority.length < authorityPlaces) (free : v.Free a.seat a.challenger.serial) :
      SeatMove running v
        { v with
          seats := changeSeat a.seat (fun r => { r with state := .contested st b }) v.seats,
          authority := v.authority ++ [a] }
  | settle (n : Seat) (a : AuthorityEntry) (f : SeatRecord → SeatRecord)
      (found : v.authority.find? (fun a => a.seat == n) = some a)
      (number : ∀ r, (f r).number = r.number) (contested : ∀ r, (f r).state.isContested = false)
      (holder : ∀ r h', (f r).state.holder = some h' →
        h' = a.challenger ∨ ∃ h, r.state.holder = some h ∧ h.serial = h'.serial) :
      SeatMove running v
        { v with seats := changeSeat n f v.seats, authority := v.authority.filter (fun a => a.seat != n) }

/-! ## Clients and sightings -/

/-- The entry counts for the stream (R18, R113). -/
def ClientEntry.listens (e : ClientEntry) (i : StreamId) : Bool := e.state.counted && e.subscriptions.contains i

/-- An entry has a hold-down or a context wait only while ASSOCIATED (R38). -/
def ClientEntry.waitsOrdered (e : ClientEntry) : Prop :=
  e.state ≠ .associated → e.holdDown = none ∧ e.contextWait = none

/-- A changed entry that counts for the same streams, takes no roam place, and stays in order where it was. -/
structure ClientEntry.Harmless (e e' : ClientEntry) : Prop where
  id : e'.id = e.id
  listens : ∀ i, e'.listens i = e.listens i
  nodup : e.subscriptions.Nodup → e'.subscriptions.Nodup
  ordered : e.ordered → e'.ordered
  reserved : e'.isReserved = true → e.isReserved = true
  roamOut : e'.isRoamOut = true → e.isRoamOut = true
  waits : e.waitsOrdered → e'.waitsOrdered

/-- An entry that a RUNNING node with room creates for a client without one (R10, R40, R47). -/
structure Newcomer (s : State) (e : ClientEntry) : Prop where
  absent : s.findEntry e.id = none
  running : s.sl.nodeState = .running
  room : s.au.clients.length < s.par.limit
  signal : (-400 ≤ e.signal ∧ e.signal ≤ -80) ∨ ∃ g ∈ s.au.sightings, g.signal = e.signal
  bindings : e.bindings.length ≤ 4 ∧ (e.bindings.map (·.serial)).Nodup
  subscriptions : e.subscriptions.length ≤ 4 ∧ e.subscriptions.Nodup
  record : ∀ r, e.record = some r → 1 ≤ r.maxSubscriptions ∧ r.maxSubscriptions ≤ 4
  silent : ∀ i, e.listens i = false
  reserved : e.isReserved = true → s.au.clients.countP ClientEntry.isReserved < roamPlaces
  roamOut : e.isRoamOut = false
  waits : e.holdDown = none ∧ e.contextWait = none

inductive ClientMove (s : State) : State → Prop
  | edit (f : ClientEntry → ClientEntry) (harmless : ∀ e ∈ s.au.clients, ClientEntry.Harmless e (f e)) :
      ClientMove s (s.setAu { s.au with clients := s.au.clients.map f })
  | restate (c : ClientId) (e : ClientEntry) (f : ClientEntry → ClientEntry) (found : s.findEntry c = some e)
      (id : ∀ x, (f x).id = x.id) (harmless : ClientEntry.Harmless e (f e)) : ClientMove s (s.updateEntry c f)
  | grant (c : ClientId) (e : ClientEntry) (peer : Station) (expiry : Time) (found : s.findEntry c = some e)
      (associated : e.state = .associated) (free : e.holdDown = none)
      (place : s.au.clients.countP ClientEntry.isRoamOut < roamPlaces) :
      ClientMove s (s.updateEntry c (fun e => { e with state := .roamOut peer expiry, contextWait := none }))
  | roamReset : ClientMove s
      (s.setAu { clients := s.au.clients.filter (fun e => e.state.counted), sightings := [] })
  | create (e : ClientEntry) (new : Newcomer s e) : ClientMove s (s.createEntry e)
  | sight (g : Sighting) (absent : s.findEntry g.id = none) (signal : -400 ≤ g.signal ∧ g.signal ≤ -80) :
      ClientMove s (s.insertSighting g)
  | resight (c : ClientId) (f : Sighting → Sighting)
      (keeps : ∀ g, (f g).id = g.id ∧
        (-400 ≤ g.signal ∧ g.signal ≤ -80 → -400 ≤ (f g).signal ∧ (f g).signal ≤ -80)) :
      ClientMove s (s.updateSighting c f)
  | unsight (c : ClientId) : ClientMove s (s.eraseSighting c)

/-! ## Streams and the replay cycle -/

/-- The catalogue with one stream's entry changed. -/
def ReplayUnit.change (v : ReplayUnit) (i : StreamId) (f : StreamEntry → StreamEntry) : ReplayUnit :=
  { v with catalogue := v.catalogue.map (fun e => if e.id == i then f e else e) }

/-- The catalogue entry of a stream. -/
def ReplayUnit.find (v : ReplayUnit) (i : StreamId) : Option StreamEntry := v.catalogue.find? (fun e => e.id == i)

/-- Slot `k` started, with `n` air units handed over. -/
def ReplayUnit.slotStarted (v : ReplayUnit) (k n : Nat) : ReplayUnit :=
  { v with cycle := { v.cycle with slot := some k, units := v.cycle.units + n } }

/-- What a slot start does to the Replay Unit: nothing more, an airing, or an underrun with what it fills in (R125 to R130). -/
inductive SlotStarts (v : ReplayUnit) (k : Nat) : ReplayUnit → Prop
  | idle : SlotStarts v k (v.slotStarted k 0)
  | airs (e : StreamEntry) (g : Segment) (found : v.find e.id = some e) (active : e.activity = .active)
      (due : e.due = some g) : SlotStarts v k ((v.slotStarted k g.units).change e.id (StreamEntry.afterAiring g))
  | underruns (e : StreamEntry) (n : Nat) (found : v.find e.id = some e) (active : e.activity = .active)
      (fill : n = 0 ∨ ∃ g, e.aired = some g ∧ n = g.units) :
      SlotStarts v k ((v.slotStarted k n).change e.id StreamEntry.afterUnderrun)

/-- The ACTIVE streams in order of air group. -/
def ReplayUnit.activeStreams (v : ReplayUnit) : List StreamId :=
  (sortBy (fun e => e.airGroup.getD 0) (v.catalogue.filter (fun e => e.activity == .active))).map (·.id)

/-- A cycle start before its slot 0: JOINING streams ACTIVE, the active list and the offset set (R123). -/
def ReplayUnit.cycleStarted (v : ReplayUnit) (offset : Nat → Nat) (now : Time) : ReplayUnit :=
  let w : ReplayUnit := { v with catalogue := v.catalogue.map StreamEntry.activated }
  { w with
    cycle := { running := true, offset := offset w.activeStreams.length, active := w.activeStreams.map some, slot := none,
               units := 0, startedAt := now } }

/-- The rise of a stream's count by one (R18, R108, R122). -/
inductive Raises (v : ReplayUnit) (i : StreamId) (now : Time) : ReplayUnit → Prop
  | start (e : StreamEntry) (group : Nat) (w : ReplayUnit) (found : v.find i = some e) (dormant : e.activity = .dormant)
      (none_counted : e.subscribers = 0) (free : ∀ x ∈ v.catalogue, x.airGroup ≠ some group) (small : group < 8)
      (stopped : v.cycle.running = false)
      (starts : SlotStarts ((v.change i (StreamEntry.joined (some group))).cycleStarted (fun _ => 0) now) 0 w) :
      Raises v i now w
  | join (e : StreamEntry) (group : Nat) (found : v.find i = some e) (dormant : e.activity = .dormant)
      (none_counted : e.subscribers = 0) (free : ∀ x ∈ v.catalogue, x.airGroup ≠ some group) (small : group < 8)
      (running : v.cycle.running = true) :
      Raises v i now (v.change i (StreamEntry.joined (some group)))
  | revive (e : StreamEntry) (found : v.find i = some e) (leaving : e.activity = .leaving)
      (none_counted : e.subscribers = 0) (live : e.ended = false) :
      Raises v i now (v.change i (fun e => { e with subscribers := 1, activity := .active }))
  | more (e : StreamEntry) (found : v.find i = some e)
      (counted : e.subscribers ≠ 0 ∨ (e.activity ≠ .dormant ∧ e.activity ≠ .leaving)) :
      Raises v i now (v.change i (fun e => { e with subscribers := e.subscribers + 1 }))

/-- Both collections of entries name no client and no stream twice. -/
def State.listed (s : State) : Prop := (s.au.clients.map (·.id)).Nodup ∧ ∀ e ∈ s.au.clients, e.subscriptions.Nodup

/-- A stream taken from a client's list, and its count lowered (R16, R18, R106). -/
def State.withdrawn (s : State) (p : ClientId × StreamId) : State :=
  (s.updateEntry p.1 (fun e => { e with subscriptions := e.subscriptions.filter (fun x => x != p.2) })).lowerCount p.2

/-- Moves of the client table that change a stream's count. -/
inductive ListenerMove (s : State) : State → Prop
  | remove (c : ClientId) : ListenerMove s (s.removeEntry c)
  | endReservation (e : ClientEntry) (peer : Station) (found : s.findEntry e.id = some e) :
      ListenerMove s (s.endReservation e peer)
  | withdraw (l : List (ClientId × StreamId))
      (listens : s.listed → l.Nodup ∧ ∀ p ∈ l, ∃ e, s.findEntry p.1 = some e ∧ e.listens p.2 = true) :
      ListenerMove s (l.foldl State.withdrawn s)
  | subscribe (c : ClientId) (i : StreamId) (e : ClientEntry) (v : ReplayUnit) (found : s.findEntry c = some e)
      (counted : e.state.counted = true) (new : i ∉ e.subscriptions) (place : e.subscriptions.length < e.maxSubscriptions)
      (started : s.sl.nodeState ≠ .starting) (raises : Raises s.ru i s.now v) :
      ListenerMove s
        ((s.updateEntry c (fun e => { e with subscriptions := e.subscriptions ++ [i] })).setRu v)

/-- A stream that the Replay Unit counts for a cycle: JOINING or ACTIVE. -/
def StreamEntry.counts (e : StreamEntry) : Bool := e.activity == .joining || e.activity == .active

/-- The end of a cycle of `n` slots (R133). -/
inductive CycleEnds (v : ReplayUnit) (n : Nat) (now : Time) : ReplayUnit → Prop
  | stop (none_left : ∀ e ∈ clearLeaving v.catalogue, e.counts = false) :
      CycleEnds v n now
        { v with
          catalogue := clearLeaving v.catalogue, occupancy := 0,
          cycle := { v.cycle with running := false, active := [], slot := none, units := 0 } }
  | restart (w : ReplayUnit) (some_left : ∃ e ∈ clearLeaving v.catalogue, e.counts = true)
      (starts : SlotStarts
        (({ v with catalogue := clearLeaving v.catalogue, occupancy := occupancyOf v.cycle.units n } :
            ReplayUnit).cycleStarted (fun a => (v.cycle.offset + 1) % a) now) 0 w) : CycleEnds v n now w

/-- The Replay Unit emptied and STOPPED by its reset, the counted streams JOINING (R119, R135). -/
def ReplayUnit.emptied (v : ReplayUnit) : ReplayUnit :=
  { catalogue := (clearLeaving (v.catalogue.map StreamEntry.freed)).map StreamEntry.rejoined,
    cycle := { v.cycle with running := false, offset := 0, active := [], slot := none, units := 0 }, occupancy := 0 }

/-- The Replay Unit's reset (R119, R135). -/
inductive ReplayResets (v : ReplayUnit) (now : Time) : ReplayUnit → Prop
  | stop (none_left : ∀ e ∈ v.emptied.catalogue, e.activity ≠ .joining) : ReplayResets v now v.emptied
  | restart (w : ReplayUnit) (some_left : ∃ e ∈ v.emptied.catalogue, e.activity = .joining)
      (starts : SlotStarts (v.emptied.cycleStarted (fun _ => 0) now) 0 w) : ReplayResets v now w

inductive ReplayMove (s : State) : State → Prop
  | insert (i : StreamId) (tier : Tier) (fill : Fill) (now : Time) (new : s.findStream i = none) :
      ReplayMove s (s.insertStream (StreamEntry.fresh i tier fill now))
  | reannounce (i : StreamId) (tier : Tier) (fill : Fill) (now : Time) :
      ReplayMove s (s.updateStream i (StreamEntry.reannounced tier fill now))
  | cache (i : StreamId) (e : StreamEntry) (g : Segment) (length : 1 ≤ g.data.length ∧ g.data.length ≤ longestSegment)
      (found : s.findStream i = some e) (wanted : e.wanted = true) (kept : e.discards g.seq = false) :
      ReplayMove s (s.updateStream i (StreamEntry.cache g))
  | slot (v : ReplayUnit) (running : s.ru.cycle.running = true) (left : s.nextSlot < s.par.slots)
      (starts : SlotStarts s.ru s.nextSlot v) : ReplayMove s (s.setRu v)
  | cycleEnd (v : ReplayUnit) (running : s.ru.cycle.running = true) (ends : CycleEnds s.ru s.par.slots s.now v) :
      ReplayMove s (s.setRu v)
  | reset (v : ReplayUnit) (started : s.sl.nodeState ≠ .starting) (resets : ReplayResets s.ru s.now v) :
      ReplayMove s (s.setRu v)
  | delete (i : StreamId) (unheard : ∀ e ∈ s.au.clients, e.listens i = false) : ReplayMove s (s.deleteStream i)
  | ending (i : StreamId) (e : StreamEntry) (unheard : ∀ e ∈ s.au.clients, e.listens i = false)
      (found : s.findStream i = some e) (used : e.activity ≠ .dormant) :
      ReplayMove s (s.updateStream i (fun e => { e with activity := .leaving, ended := true, joinMarker := false }))

/-! ## Moves and changes -/

/-- A move takes no time and changes no station parameter, no node state, no waiting command and no boundary. -/
inductive Move (s : State) : State → Prop
  | drawn : Move s s.drawn
  | radio {t : State} (m : RadioMove s t) : Move s t
  | counter {t : State} (m : CounterMove s t) : Move s t
  | bus {t : State} (m : BusMove s t) : Move s t
  | peer {t : State} (m : PeerMove s t) : Move s t
  | seat {v : SeatValidator} (m : SeatMove (s.sl.nodeState = .running) s.sv v) : Move s (s.setSv v)
  | client {t : State} (m : ClientMove s t) : Move s t
  | listener {t : State} (m : ListenerMove s t) : Move s t
  | replay {t : State} (m : ReplayMove s t) : Move s t

/-- A run of moves. -/
abbrev Moves : State → State → Prop := Relation.ReflTransGen Move

/-- Parameters that the node may take: the defaults, or those of a station record (R195, R196). -/
def Configured (p : Option Params) : Prop := p = none ∨ ∃ r, p = some (paramsOf r)

/-- The node LISTENING under its parameters, before its first PRESENCE is handed over (R197). -/
def State.configured (s : State) (p : Option Params) : State :=
  (s.setSl { s.sl with nodeState := .listening, listeningCount := 0, defaulted := p.isNone }).applyParams
    (p.getD Params.default)

/-- A step's change: a move, the next command's taking, the passing of time, a reset, the end of STARTING, or a boundary's own part. -/
inductive Change (s : State) : State → Prop
  | move {t : State} (m : Move s t) : Change s t
  | time (dt : Time) : Change s (s.elapse dt)
  | commands (rest : List Instr) : Change s { s with pending := rest }
  | reset (quietSince : Option Time) (ready : Bool) (strap : BitVec 5) :
      Change s ((s.powerOn quietSince ready).readStrap strap)
  | listen (p : Option Params) (starting : s.sl.nodeState = .starting) (configured : Configured p)
      (room : s.txCount < txPlaces) : Change s ((s.configured p).acceptFrame (announcementFrame .presence))
  | crowded (p : Option Params) (starting : s.sl.nodeState = .starting) (configured : Configured p)
      (full : txPlaces ≤ s.txCount) : Change s (s.configured p)
  | boundary (next : Time) (due : s.anu.nextBoundary ≠ none) :
      Change s (s.setAnu { s.anu with nextBoundary := some next })
  | listened : Change s s.countListening

abbrev Changes : State → State → Prop := Relation.ReflTransGen Change

end Sys2Proof.Machine
end

section
/-! SUPPORT. What a move leaves unchanged, and the operations that may change places with an update of another block. -/

namespace Sys2Proof.Machine

/-! ## Operations on different blocks change places -/

theorem State.startTransfer_setRu (s : State) (x : ReplayUnit) : (s.setRu x).startTransfer = s.startTransfer.setRu x := by
  unfold State.startTransfer
  simp only [State.setRu_rp]
  split <;> rfl

theorem State.enqueueDownlink_setRu (s : State) (x : ReplayUnit) (r : Downlink) :
    (s.setRu x).enqueueDownlink r = (s.enqueueDownlink r).setRu x :=
  State.startTransfer_setRu (s.setRp { s.rp with downlink := s.rp.downlink ++ [r] }) x

theorem State.count_setRu (s : State) (x : ReplayUnit) (k : CounterId) : (s.setRu x).count k = (s.count k).setRu x := by
  cases h : s.masked k with
  | true => rw [State.count_of_masked h, State.count_of_masked (s := s.setRu x) h]
  | false => rw [State.count_of_unmasked h, State.count_of_unmasked (s := s.setRu x) h]; rfl

theorem State.handReply_setRu (s : State) (x : ReplayUnit) (r : Downlink) :
    (s.setRu x).handReply r = (s.handReply r).setRu x := by
  simp only [State.handReply, apply_ite (State.setRu · x), ← State.enqueueDownlink_setRu, ← State.count_setRu]
  rfl

theorem State.startTransfer_setRbc (s : State) (x : RowBus) : (s.setRbc x).startTransfer = s.startTransfer.setRbc x := by
  unfold State.startTransfer
  simp only [State.setRbc_rp]
  split <;> rfl

theorem State.enqueueDownlink_setRbc (s : State) (x : RowBus) (r : Downlink) :
    (s.setRbc x).enqueueDownlink r = (s.enqueueDownlink r).setRbc x :=
  State.startTransfer_setRbc (s.setRp { s.rp with downlink := s.rp.downlink ++ [r] }) x

theorem State.count_setRbc (s : State) (x : RowBus) (k : CounterId) : (s.setRbc x).count k = (s.count k).setRbc x := by
  cases h : s.masked k with
  | true => rw [State.count_of_masked h, State.count_of_masked (s := s.setRbc x) h]
  | false => rw [State.count_of_unmasked h, State.count_of_unmasked (s := s.setRbc x) h]; rfl

theorem State.handReply_setRbc (s : State) (x : RowBus) (r : Downlink) :
    (s.setRbc x).handReply r = (s.handReply r).setRbc x := by
  simp only [State.handReply, apply_ite (State.setRbc · x), ← State.enqueueDownlink_setRbc, ← State.count_setRbc]
  rfl

theorem State.startTransfer_setAu (s : State) (x : Association) : (s.setAu x).startTransfer = s.startTransfer.setAu x := by
  unfold State.startTransfer
  simp only [State.setAu_rp]
  split <;> rfl

theorem State.enqueueDownlink_setAu (s : State) (x : Association) (r : Downlink) :
    (s.setAu x).enqueueDownlink r = (s.enqueueDownlink r).setAu x :=
  State.startTransfer_setAu (s.setRp { s.rp with downlink := s.rp.downlink ++ [r] }) x

theorem State.count_setAu (s : State) (x : Association) (k : CounterId) : (s.setAu x).count k = (s.count k).setAu x := by
  cases h : s.masked k with
  | true => rw [State.count_of_masked h, State.count_of_masked (s := s.setAu x) h]
  | false => rw [State.count_of_unmasked h, State.count_of_unmasked (s := s.setAu x) h]; rfl

theorem State.handReply_setAu (s : State) (x : Association) (r : Downlink) :
    (s.setAu x).handReply r = (s.handReply r).setAu x := by
  simp only [State.handReply, apply_ite (State.setAu · x), ← State.enqueueDownlink_setAu, ← State.count_setAu]
  rfl

theorem State.settleTryAgain_eq (s : State) (p : PendingToken) :
    s.settleTryAgain p =
      (s.handReply (.tokenReply p.client .tryAgain p.token.seat)).erasePending p.client p.token.serial := rfl

theorem State.reportRefusal_setRbc (s : State) (x : RowBus) (f : TxFrame) :
    (s.setRbc x).reportRefusal f = (s.reportRefusal f).setRbc x := by
  unfold State.reportRefusal
  split
  · unfold State.forwardLost
    split <;> rename_i h
    · rw [show s.findPending _ _ = _ from h]
      simp only [apply_ite (State.setRbc · x), State.settleTryAgain_eq, State.handReply_setRbc]
      rfl
    · rw [show s.findPending _ _ = _ from h]
  · rfl

theorem State.reportLoss_eq (s : State) (f : TxFrame) : s.reportLoss f = (s.clearLost f).reportRefusal f := by
  obtain ⟨destination, body⟩ := f
  match body with
  | .announcement k => cases k <;> rfl
  | .message m => cases m <;> rfl

/-- A frame has an announcement or a message; each of the two reports is about one of them. -/
theorem State.clearLost_or_reportRefusal (f : TxFrame) :
    (∀ s : State, s.clearLost f = s) ∨ ∀ s : State, s.reportRefusal f = s := by
  obtain ⟨destination, body⟩ := f
  cases body with
  | message m => exact .inl fun s => rfl
  | announcement k => exact .inr fun s => rfl

theorem State.armNotice_released (s : State) (b : Block) (k : NoticeKind) (n : Nat) :
    (s.released b).armNotice k n = (s.armNotice k n).released b := by
  simp only [State.armNotice, apply_ite (State.released · b)]
  rfl

theorem State.takePresence_released (s : State) (b : Block) (f : RxFrame) (cls : PeerClass) (block : Option SeatBlock)
    (defaulted : Bool) :
    (s.released b).takePresence f cls block defaulted = (s.takePresence f cls block defaulted).released b := by
  simp only [State.takePresence, apply_ite (State.released · b), ← State.armNotice_released]
  rfl

/-! ## The announcement state -/

@[simp] theorem Announcement.setBuffer_peers (a : Announcement) (k : AnnounceKind) (b : Buffer) :
    (a.setBuffer k b).peers = a.peers := by cases k <;> rfl

@[simp] theorem Announcement.setBuffer_notices (a : Announcement) (k : AnnounceKind) (b : Buffer) :
    (a.setBuffer k b).notices = a.notices := by cases k <;> rfl

@[simp] theorem Announcement.setBuffer_nextBoundary (a : Announcement) (k : AnnounceKind) (b : Buffer) :
    (a.setBuffer k b).nextBoundary = a.nextBoundary := by cases k <;> rfl

@[simp] theorem Announcement.setBuffer_wantList (a : Announcement) (k : AnnounceKind) (b : Buffer) :
    (a.setBuffer k b).wantList = a.wantList := by cases k <;> rfl

@[simp] theorem Announcement.buffer_setBuffer_self (a : Announcement) (k : AnnounceKind) (b : Buffer) :
    (a.setBuffer k b).buffer k = b := by cases k <;> rfl

theorem Announcement.buffer_setBuffer_other (a : Announcement) {j k : AnnounceKind} (b : Buffer) (other : j ≠ k) :
    (a.setBuffer k b).buffer j = a.buffer j := by
  cases k <;> cases j <;> simp [Announcement.buffer, Announcement.setBuffer] at other ⊢

theorem Announcement.setBuffer_queued (a : Announcement) (k : AnnounceKind) (b : Buffer)
    (same : b.queued = (a.buffer k).queued) (j : AnnounceKind) :
    ((a.setBuffer k b).buffer j).queued = (a.buffer j).queued := by
  by_cases h : j = k
  · subst h; rw [Announcement.buffer_setBuffer_self, same]
  · rw [Announcement.buffer_setBuffer_other a b h]

/-- Peers, notices and boundary: all of the announcement state but the buffers and the want list. -/
def Announcement.SameLists (a b : Announcement) : Prop :=
  b.peers = a.peers ∧ b.notices = a.notices ∧ b.nextBoundary = a.nextBoundary

theorem Announcement.SameLists.trans {a b c : Announcement} (h : a.SameLists b) (h' : b.SameLists c) : a.SameLists c :=
  ⟨h'.1.trans h.1, h'.2.1.trans h.2.1, h'.2.2.trans h.2.2⟩

theorem Announcement.SameLists.refl (a : Announcement) : a.SameLists a := ⟨rfl, rfl, rfl⟩

theorem State.updateBuffer_lists (s : State) (k : AnnounceKind) (f : Buffer → Buffer) :
    s.anu.SameLists (s.updateBuffer k f).anu := by
  simp [State.updateBuffer, Announcement.SameLists]

theorem State.setQueued_lists (s : State) (k : AnnounceKind) (v : Bool) : s.anu.SameLists (s.setQueued k v).anu :=
  s.updateBuffer_lists k _

theorem State.count_lists (s : State) (k : CounterId) : s.anu.SameLists (s.count k).anu := by
  cases h : s.masked k with
  | true => rw [State.count_of_masked h]; exact .refl _
  | false => rw [State.count_anu h]; exact ⟨rfl, rfl, rfl⟩

/-- An increment arms at most the HARVEST buffer. -/
theorem State.count_queued (s : State) (k : CounterId) (j : AnnounceKind) :
    ((s.count k).anu.buffer j).queued = (s.anu.buffer j).queued := by
  cases h : s.masked k with
  | true => rw [State.count_of_masked h]
  | false => rw [State.count_anu h]; cases j <;> rfl

theorem State.clearLost_lists (s : State) (f : TxFrame) : s.anu.SameLists (s.clearLost f).anu := by
  unfold State.clearLost
  split
  · exact s.setQueued_lists _ _
  · exact s.setQueued_lists _ _
  · exact .refl _

theorem State.reportAccepted_lists (s : State) (f : TxFrame) : s.anu.SameLists (s.reportAccepted f).anu := by
  unfold State.reportAccepted
  split
  · exact s.setQueued_lists _ _
  · exact .refl _

theorem State.acceptFrame_anu (s : State) (f : TxFrame) : (s.acceptFrame f).anu = (s.reportAccepted f).anu := by
  obtain h | ⟨g, since, -, -, -, h⟩ | ⟨-, h⟩ := s.acceptFrame_cases f
  · rw [h.2]; rfl
  · rw [h]; split <;> simp
  · rw [h]; simp

theorem State.acceptFrame_lists (s : State) (f : TxFrame) : s.anu.SameLists (s.acceptFrame f).anu := by
  rw [s.acceptFrame_anu]; exact s.reportAccepted_lists f

theorem State.reportCompletion_lists (s : State) (f : TxFrame) : s.anu.SameLists (s.reportCompletion f).anu := by
  unfold State.reportCompletion
  split
  · exact s.setQueued_lists _ _
  · exact s.setQueued_lists _ _
  · exact .refl _

@[simp] theorem State.clearLost_frame (s : State) (f : TxFrame) :
    (s.clearLost f).now = s.now ∧ (s.clearLost f).pending = s.pending ∧ (s.clearLost f).freeCount = s.freeCount ∧
      (s.clearLost f).sl = s.sl ∧ (s.clearLost f).au = s.au ∧ (s.clearLost f).sv = s.sv ∧ (s.clearLost f).ru = s.ru ∧
      (s.clearLost f).rbc = s.rbc ∧ (s.clearLost f).rp = s.rp := by
  unfold State.clearLost
  split <;> simp

@[simp] theorem State.quieted_frame (s : State) :
    s.quieted.now = s.now ∧ s.quieted.pending = s.pending ∧ s.quieted.freeCount = s.freeCount ∧ s.quieted.sl = s.sl ∧
      s.quieted.au = s.au ∧ s.quieted.sv = s.sv ∧ s.quieted.ru = s.ru ∧ s.quieted.anu = s.anu ∧ s.quieted.cb = s.cb ∧
      s.quieted.rp = s.rp :=
  ⟨rfl, rfl, rfl, rfl, rfl, rfl, rfl, rfl, rfl, rfl⟩

/-- A notice is armed, or nothing happens (R153). -/
theorem State.armNotice_cases (s : State) (k : NoticeKind) (n : Nat) :
    s.armNotice k n = s ∨
      (s.sl.nodeState ≠ .silent ∧ (⟨k, n⟩ : Notice) ∉ s.anu.notices ∧ s.anu.notices.length < noticePlaces ∧
        s.armNotice k n = s.setAnu { s.anu with notices := s.anu.notices ++ [⟨k, n⟩] }) := by
  by_cases h : s.sl.nodeState = .silent ∨ (⟨k, n⟩ : Notice) ∈ s.anu.notices ∨ noticePlaces ≤ s.anu.notices.length
  · exact .inl (if_pos h)
  · simp only [not_or, not_le] at h
    exact .inr ⟨h.1, h.2.1, h.2.2, if_neg (by simpa only [not_or, not_le] using h)⟩

/-! ## What a move leaves unchanged -/

theorem RadioMove.frame {s t : State} (m : RadioMove s t) : t = s.setRp t.rp := by
  have link (u : State) (x : RadioPort) (h : u = s.setRp x) : u.startTransfer = s.setRp u.startTransfer.rp := by
    obtain e | ⟨r, rest, -, -, -, e⟩ := u.startTransfer_cases <;> rw [e, h] <;> rfl
  cases m with
  | queue r room => exact link _ _ rfl
  | hold r waits place => rfl
  | taken => rfl
  | arrival r place => rfl
  | ready => exact link _ _ rfl
  | withdrawn => rfl
  | completed bytes transfer => exact link _ _ rfl

theorem CounterMove.frame {s t : State} (m : CounterMove s t) :
    t = (s.setCb t.cb).setAnu t.anu ∧ s.anu.SameLists t.anu ∧ ∀ k, (t.anu.buffer k).queued = (s.anu.buffer k).queued := by
  cases m with
  | count k =>
    refine ⟨?_, s.count_lists k, s.count_queued k⟩
    cases h : s.masked k with
    | true => rw [State.count_of_masked h]; rfl
    | false => rw [State.count_of_unmasked h]; rfl
  | reset => exact ⟨rfl, .refl _, fun _ => rfl⟩
  | snapshot due => exact ⟨rfl, .refl _, fun _ => rfl⟩

theorem BusMove.frame {s t : State} (m : BusMove s t) :
    t = ((s.setCb t.cb).setAnu t.anu).setRbc t.rbc ∧ s.anu.SameLists t.anu := by
  cases m with
  | accept f =>
    exact ⟨State.ext_fields (by simp) (by simp) (by simp) (by simp) (by simp) (by simp) (by simp) (by simp) (by simp)
      (by simp) (by simp), s.acceptFrame_lists f⟩
  | exchange f old front =>
    refine ⟨State.ext_fields (by simp) (by simp) (by simp) (by simp) (by simp) (by simp) (by simp) (by simp) (by simp)
      (by simp) (by simp), ?_⟩
    exact (State.clearLost_lists (s.setRbc { s.rbc with txNormal := front }) old).trans (State.acceptFrame_lists _ f)
  | lose f =>
    refine ⟨State.ext_fields (by simp) (by simp) (by simp) (by simp) (by simp) (by simp) (by simp) (by simp) (by simp)
      (by simp) (by simp), ?_⟩
    rw [(State.nextFrame_frame _).2.2.2.2.2.2.2.1]
    exact State.clearLost_lists _ f
  | complete f n wire k =>
    refine ⟨State.ext_fields (by simp) (by simp) (by simp) (by simp) (by simp) (by simp) (by simp) (by simp) (by simp)
      (by simp) (by simp), ?_⟩
    rw [(State.nextFrame_frame _).2.2.2.2.2.2.2.1]
    exact (State.reportCompletion_lists _ f).trans (State.count_lists _ k)
  | line b => exact ⟨rfl, .refl _⟩
  | store f => exact ⟨rfl, .refl _⟩
  | release b => exact ⟨rfl, .refl _⟩

theorem PeerMove.frame {s t : State} (m : PeerMove s t) :
    t = s.setAnu t.anu ∧ t.anu.nextBoundary = s.anu.nextBoundary ∧
      ∀ k, (t.anu.buffer k).queued = (s.anu.buffer k).queued := by
  cases m with
  | edit g => exact ⟨rfl, rfl, fun k => by cases k <;> rfl⟩
  | put p => exact ⟨rfl, rfl, fun k => by cases k <;> rfl⟩
  | arm k n =>
    obtain h | ⟨-, -, -, h⟩ := s.armNotice_cases k n <;> rw [h]
    · exact ⟨rfl, rfl, fun _ => rfl⟩
    · exact ⟨rfl, rfl, fun k => by cases k <;> rfl⟩
  | sent n => exact ⟨rfl, rfl, fun k => by cases k <;> rfl⟩
  | flags a peers notices boundary queued => exact ⟨rfl, boundary, queued⟩

theorem State.insertSighting_eq (s : State) (g : Sighting) : s.insertSighting g = s.setAu (s.insertSighting g).au := by
  unfold State.insertSighting
  split
  · rfl
  · split <;> rfl

theorem ClientMove.frame {s t : State} (m : ClientMove s t) : t = s.setAu t.au := by
  cases m with
  | sight g => exact s.insertSighting_eq g
  | _ => rfl

theorem State.foldl_lowerCount (s : State) (l : List StreamId) :
    l.foldl State.lowerCount s = s.setRu (l.foldl State.lowerCount s).ru := by
  induction l generalizing s with
  | nil => rfl
  | cons i l ih =>
    rw [List.foldl_cons, ih]
    rfl

theorem State.removeEntry_eq (s : State) (c : ClientId) :
    s.removeEntry c = (s.setAu (s.removeEntry c).au).setRu (s.removeEntry c).ru := by
  unfold State.removeEntry
  split
  · rfl
  · split
    · rw [State.foldl_lowerCount]; rfl
    · rfl

theorem ListenerMove.frame {s t : State} (m : ListenerMove s t) : t = (s.setAu t.au).setRu t.ru := by
  cases m with
  | remove c => exact s.removeEntry_eq c
  | endReservation e peer =>
    unfold State.endReservation
    rw [State.insertSighting_eq, s.removeEntry_eq]
    rfl
  | withdraw l =>
    have fold (l : List (ClientId × StreamId)) (u : State) :
        l.foldl State.withdrawn u = (u.setAu (l.foldl State.withdrawn u).au).setRu (l.foldl State.withdrawn u).ru := by
      induction l generalizing u with
      | nil => rfl
      | cons p l ih => rw [List.foldl_cons, ih]; rfl
    exact fold l s
  | subscribe c i e v => rfl

theorem ReplayMove.frame {s t : State} (m : ReplayMove s t) : t = s.setRu t.ru := by
  cases m with
  | insert i tier fill now =>
    unfold State.insertStream
    split
    · rfl
    · split <;> rfl
  | _ => rfl

/-- A move takes no time and changes no station parameter, no node state, no waiting command and no boundary. -/
theorem Move.keeps {s t : State} (m : Move s t) :
    t.sl = s.sl ∧ t.now = s.now ∧ t.pending = s.pending ∧ t.anu.nextBoundary = s.anu.nextBoundary := by
  cases m with
  | drawn => exact ⟨rfl, rfl, rfl, rfl⟩
  | radio m => rw [m.frame]; exact ⟨rfl, rfl, rfl, rfl⟩
  | counter m => obtain ⟨h, lists, -⟩ := m.frame; exact ⟨by rw [h]; rfl, by rw [h]; rfl, by rw [h]; rfl, lists.2.2⟩
  | bus m => obtain ⟨h, lists⟩ := m.frame; exact ⟨by rw [h]; rfl, by rw [h]; rfl, by rw [h]; rfl, lists.2.2⟩
  | peer m => obtain ⟨h, boundary, -⟩ := m.frame; exact ⟨by rw [h]; rfl, by rw [h]; rfl, by rw [h]; rfl, boundary⟩
  | seat m => exact ⟨rfl, rfl, rfl, rfl⟩
  | client m => rw [m.frame]; exact ⟨rfl, rfl, rfl, rfl⟩
  | listener m => rw [m.frame]; exact ⟨rfl, rfl, rfl, rfl⟩
  | replay m => rw [m.frame]; exact ⟨rfl, rfl, rfl, rfl⟩

theorem Moves.keeps {s t : State} (m : Moves s t) :
    t.sl = s.sl ∧ t.now = s.now ∧ t.pending = s.pending ∧ t.anu.nextBoundary = s.anu.nextBoundary := by
  induction m with
  | refl => exact ⟨rfl, rfl, rfl, rfl⟩
  | tail _ m ih =>
    obtain ⟨sl, now, pending, next⟩ := m.keeps
    exact ⟨sl.trans ih.1, now.trans ih.2.1, pending.trans ih.2.2.1, next.trans ih.2.2.2⟩

end Sys2Proof.Machine
end

section
/-! SUPPORT. The operations on clients, deliveries and the row bus as runs of moves. -/

namespace Sys2Proof.Machine

/-! ## Runs -/

theorem Moves.fold {α : Type} {f : State → α → State} (h : ∀ s x, Moves s (f s x)) (l : List α) (s : State) :
    Moves s (l.foldl f s) := by
  induction l generalizing s with
  | nil => exact .refl
  | cons x l ih => exact (h s x).trans (ih (f s x))

/-! ## Entries that stay in order -/

theorem ClientEntry.Harmless.refl (e : ClientEntry) : ClientEntry.Harmless e e :=
  ⟨rfl, fun _ => rfl, fun h => h, fun h => h, fun h => h, fun h => h, fun h => h⟩

theorem ClientEntry.isReserved_of_state {e e' : ClientEntry} (h : e'.state = e.state) : e'.isReserved = e.isReserved := by
  unfold ClientEntry.isReserved; rw [h]

theorem ClientEntry.isRoamOut_of_state {e e' : ClientEntry} (h : e'.state = e.state) : e'.isRoamOut = e.isRoamOut := by
  unfold ClientEntry.isRoamOut; rw [h]

/-- A change that leaves state, subscriptions and waits as they are. -/
theorem ClientEntry.Harmless.of_same {e e' : ClientEntry} (id : e'.id = e.id) (state : e'.state = e.state)
    (subscriptions : e'.subscriptions = e.subscriptions) (holdDown : e.holdDown = none → e'.holdDown = none)
    (contextWait : e.contextWait = none → e'.contextWait = none) (ordered : e.ordered → e'.ordered) :
    ClientEntry.Harmless e e' where
  id := id
  listens i := by unfold ClientEntry.listens; rw [state, subscriptions]
  nodup h := by rwa [subscriptions]
  ordered := ordered
  reserved h := by rwa [ClientEntry.isReserved_of_state state] at h
  roamOut h := by rwa [ClientEntry.isRoamOut_of_state state] at h
  waits h n := by
    obtain ⟨h1, h2⟩ := h (by rwa [state] at n)
    exact ⟨holdDown h1, contextWait h2⟩

/-- Every entry of one client is changed harmlessly. -/
theorem ClientMove.update {s : State} (c : ClientId) {f : ClientEntry → ClientEntry}
    (harmless : ∀ e, ClientEntry.Harmless e (f e)) : ClientMove s (s.updateEntry c f) := by
  refine .edit (fun e => if e.id == c then f e else e) fun e _ => ?_
  split
  · exact harmless e
  · exact .refl e

theorem State.updateEntry_moves (s : State) (c : ClientId) {f : ClientEntry → ClientEntry}
    (harmless : ∀ e, ClientEntry.Harmless e (f e)) : Moves s (s.updateEntry c f) :=
  .single (.client (.update c harmless))

theorem ClientEntry.harmless_score (e : ClientEntry) {n : Nat} (h : e.signal ≤ -80 → n ≤ 1010) :
    ClientEntry.Harmless e { e with score := n } :=
  .of_same rfl rfl rfl (fun w => w) (fun w => w) fun ⟨low, high, _, lists⟩ => ⟨low, high, h high, lists⟩

theorem State.scoreOf_le (s : State) {e : ClientEntry} (h : e.signal ≤ -80) : s.scoreOf e ≤ 1010 := servingScore_le _ h

theorem State.rescore_moves (s : State) (c : ClientId) : Moves s (s.rescore c) :=
  s.updateEntry_moves c fun e => e.harmless_score s.scoreOf_le

theorem ClientEntry.harmless_sampleWith (rssi : Int) (now : Time) (e : ClientEntry) :
    ClientEntry.Harmless e (e.sampleWith rssi now) := by
  refine .of_same rfl rfl rfl (fun w => w) (fun w => w) fun ⟨h1, h2, h⟩ => ?_
  have range : -400 ≤ (e.sampleWith rssi now).signal ∧ (e.sampleWith rssi now).signal ≤ -80 := by
    unfold ClientEntry.sampleWith
    dsimp only
    split
    · exact smooth_range rssi h1 h2
    · exact firstSample_range rssi
  exact ⟨range.1, range.2, h⟩

/-! ### Bindings (R19, R20, R59) -/

theorem recordInList_serials (bs : List Binding) (b : Binding) (h : bs.any (fun x => x.serial == b.serial) = true) :
    (recordInList bs b).map (·.serial) = bs.map (·.serial) := by
  rw [recordInList, if_pos h, List.map_map]
  refine List.map_congr_left fun x _ => ?_
  by_cases hx : x.serial = b.serial
  · simp [hx]
  · simp [hx]

theorem recordInList_length (bs : List Binding) (b : Binding) (h : bs.length ≤ 4) : (recordInList bs b).length ≤ 4 := by
  unfold recordInList
  split
  · simpa using h
  · split <;> simp <;> omega

theorem recordInList_nodup (bs : List Binding) (b : Binding) (h : (bs.map (·.serial)).Nodup) :
    ((recordInList bs b).map (·.serial)).Nodup := by
  cases hb : bs.any (fun x => x.serial == b.serial) with
  | true => rwa [recordInList_serials bs b hb]
  | false =>
    have absent : ∀ l : List Binding, l.Sublist bs → ((l ++ [b]).map (·.serial)).Nodup := by
      intro l hl
      rw [List.map_append, List.map_singleton, List.nodup_append]
      refine ⟨h.sublist (hl.map _), by simp, ?_⟩
      intro n hn m hm e
      obtain ⟨x, hx, rfl⟩ := List.mem_map.mp hn
      have := List.any_eq_false.mp hb x (hl.subset hx)
      simp_all
    rw [recordInList, if_neg (by simp [hb])]
    split
    · exact absent _ (List.drop_sublist 1 bs)
    · exact absent _ (List.Sublist.refl bs)

theorem mergeBindings_spec (bs more : List Binding) (h : bs.length ≤ 4) (hn : (bs.map (·.serial)).Nodup) :
    (mergeBindings bs more).length ≤ 4 ∧ ((mergeBindings bs more).map (·.serial)).Nodup := by
  unfold mergeBindings
  induction more generalizing bs with
  | nil => exact ⟨h, hn⟩
  | cons b more ih =>
    rw [List.foldl_cons]
    split
    · exact ih bs h hn
    · rename_i hb
      simp only [not_or, not_le] at hb
      refine ih _ (by simp; omega) ?_
      rw [List.map_append, List.map_singleton, List.nodup_append]
      refine ⟨hn, by simp, ?_⟩
      intro n hn m hm e
      obtain ⟨x, hx, rfl⟩ := List.mem_map.mp hn
      have := List.any_eq_false.mp (Bool.eq_false_iff.mpr hb.2) x hx
      simp_all

theorem ClientEntry.harmless_bindings (e : ClientEntry) {bs : List Binding}
    (h : e.bindings.length ≤ 4 → (e.bindings.map (·.serial)).Nodup → bs.length ≤ 4 ∧ (bs.map (·.serial)).Nodup) :
    ClientEntry.Harmless e { e with bindings := bs } :=
  .of_same rfl rfl rfl (fun w => w) (fun w => w) fun ⟨h1, h2, h3, h4, h5, h6⟩ => ⟨h1, h2, h3, (h h4 h5).1, (h h4 h5).2, h6⟩

theorem State.recordBinding_moves (s : State) (c : ClientId) (b : Binding) : Moves s (s.recordBinding c b) := by
  unfold State.recordBinding
  split
  · split
    · exact s.updateEntry_moves c fun e =>
        e.harmless_bindings fun h hn => ⟨recordInList_length _ b h, recordInList_nodup _ b hn⟩
    · exact .refl
  · exact .refl

/-! ## Replies and deliveries -/

theorem State.count_moves (s : State) (k : CounterId) : Moves s (s.count k) := .single (.counter (.count k))

theorem State.handReply_moves (s : State) (r : Downlink) : Moves s (s.handReply r) := by
  by_cases queues : s.rp.held = [] ∧ s.rp.downlink.length < downlinkPlaces
  · rw [State.handReply_eq_enqueueDownlink queues.1 queues.2]
    exact .single (.radio (.queue r queues.2))
  · have waits : s.rp.held ≠ [] ∨ downlinkPlaces ≤ s.rp.downlink.length := by
      rwa [not_and_or, not_lt] at queues
    by_cases place : s.rp.held.length < heldPlaces
    · rw [State.handReply_eq_hold waits place]
      exact .single (.radio (.hold r waits place))
    · rw [State.handReply_eq_lost (not_lt.mp place)]
      exact s.count_moves _

theorem State.deliver_moves (s : State) (c : ClientId) (n : Serial) (seat : Seat) (k : TokenCode) (o : Station) :
    Moves s (s.deliver c n seat k o) := by
  unfold State.deliver
  refine (s.handReply_moves (.tokenReply c k seat)).trans ?_
  dsimp only
  split
  · exact (State.recordBinding_moves _ _ _).trans (State.count_moves _ _)
  · split
    · exact State.count_moves _ _
    · exact .refl

theorem State.deliverUnsolicited_moves (s : State) (c : ClientId) (n : Serial) (seat : Seat) (k : TokenCode) (o : Station) :
    Moves s (s.deliverUnsolicited c n seat k o) := by
  unfold State.deliverUnsolicited
  split
  · split
    · exact s.deliver_moves ..
    · exact .refl
  · exact .refl

theorem State.erasePending_moves (s : State) (c : ClientId) (n : Serial) : Moves s (s.erasePending c n) :=
  .single (.seat (.settled _ (List.filter_sublist (l := s.sv.pendingTokens))))

theorem State.settleTryAgain_moves (s : State) (p : PendingToken) : Moves s (s.settleTryAgain p) :=
  (s.deliver_moves ..).trans (State.erasePending_moves _ _ _)

theorem State.forwardLost_moves (s : State) (c : ClientId) (n : Serial) (d : Station) : Moves s (s.forwardLost c n d) := by
  unfold State.forwardLost
  split
  · split
    · exact s.settleTryAgain_moves _
    · exact .refl
  · exact .refl

theorem State.armNotice_moves (s : State) (k : NoticeKind) (n : Nat) : Moves s (s.armNotice k n) :=
  .single (.peer (.arm k n))

/-! ## The hand-over of frames -/

theorem State.reportRefusal_moves (s : State) (f : TxFrame) : Moves s (s.reportRefusal f) := by
  unfold State.reportRefusal
  split
  · exact s.forwardLost_moves ..
  · exact .refl

/-- An eviction as a refusal's report, and then the frame's going. -/
theorem State.evict_eq {s : State} {old : TxFrame} {front : List TxFrame} (waits : s.rbc.txNormal = front ++ [old]) :
    let u := (s.count .txLost).reportRefusal old
    s.evict old = (u.setRbc { u.rbc with txNormal := front }).clearLost old := by
  intro u
  have last : s.rbc.txNormal.dropLast = front := by rw [waits]; simp
  have same : u.rbc = s.rbc := by simp [u]
  rw [State.evict, last, State.reportLoss_eq, State.count_setRbc, same]
  obtain message | announcement := State.clearLost_or_reportRefusal old
  · rw [message, message, State.reportRefusal_setRbc]
  · rw [announcement]
    simp only [u, announcement]

theorem State.handOver_moves (s : State) (f : TxFrame)
    (single : ∀ k, f.body = .announcement k → (s.anu.buffer k).queued = false) : Moves s (s.handOver f).1 := by
  by_cases hn : s.sl.nodeState = .silent ∨ s.sl.nodeState = .starting
  · rw [State.handOver, if_pos hn]
  obtain ⟨h, -⟩ | ⟨room, h⟩ | ⟨front, old, -, urgent, waits, h⟩ | ⟨-, -, h⟩ := s.handOver_cases f
  · exact absurd h hn
  · rw [h]
    exact .single (.bus (.accept f hn room single))
  · rw [h, State.evict_eq waits]
    refine ((s.count_moves .txLost).trans (State.reportRefusal_moves _ old)).tail (.bus (.exchange f old front ?_ urgent ?_))
    · simpa [State.transmits] using hn
    · simpa using waits
  · rw [h]
    exact (s.count_moves .txLost).trans (State.reportRefusal_moves _ f)

theorem State.send_moves (s : State) (d : Station) (m : Message) : Moves s (s.send d m) :=
  s.handOver_moves _ fun _ h => by cases h

/-! ## Removing entries -/

theorem State.removeEntry_moves (s : State) (c : ClientId) : Moves s (s.removeEntry c) := .single (.listener (.remove c))

theorem State.dropEntry_moves (s : State) (c : ClientId) : Moves s (s.dropEntry c) :=
  (s.removeEntry_moves c).trans (State.handReply_moves _ _)

theorem State.removeIfInactive_moves (s : State) (c : ClientId) : Moves s (s.removeIfInactive c) := by
  unfold State.removeIfInactive
  split
  · split
    · exact s.dropEntry_moves c
    · exact .refl
  · exact .refl

theorem ClientEntry.harmless_filter_bindings (e : ClientEntry) (p : Binding → Bool) :
    ClientEntry.Harmless e { e with bindings := e.bindings.filter p } :=
  e.harmless_bindings fun h hn =>
    ⟨(List.length_filter_le p _).trans h, hn.sublist (List.filter_sublist.map _)⟩

theorem State.releaseBinding_moves (s : State) (c : ClientId) (n : Serial) (seat : Seat) :
    Moves s (s.releaseBinding c n seat) := by
  unfold State.releaseBinding
  split
  · dsimp only
    split
    · exact (s.updateEntry_moves c fun e => e.harmless_filter_bindings _).trans (State.removeIfInactive_moves _ _)
    · exact .refl
  · exact .refl

/-! ## Found entries -/

theorem State.findEntry_id {s : State} {c : ClientId} {e : ClientEntry} (h : s.findEntry c = some e) : e.id = c := by
  simpa using List.find?_some h

theorem State.findEntry_mem {s : State} {c : ClientId} {e : ClientEntry} (h : s.findEntry c = some e) : e ∈ s.au.clients :=
  List.mem_of_find?_eq_some h

theorem State.findSighting_id {s : State} {c : ClientId} {g : Sighting} (h : s.findSighting c = some g) : g.id = c := by
  simpa using List.find?_some h

theorem State.findSighting_mem {s : State} {c : ClientId} {g : Sighting} (h : s.findSighting c = some g) :
    g ∈ s.au.sightings := List.mem_of_find?_eq_some h

theorem State.findStream_id {s : State} {i : StreamId} {e : StreamEntry} (h : s.findStream i = some e) : e.id = i := by
  simpa using List.find?_some h

theorem State.hasEntry_iff (s : State) (c : ClientId) : s.hasEntry c = true ↔ ∃ e, s.findEntry c = some e := by
  rw [State.hasEntry, Option.isSome_iff_exists]

theorem State.not_hasEntry_iff (s : State) (c : ClientId) : ¬ s.hasEntry c = true ↔ s.findEntry c = none := by
  rw [State.hasEntry, Option.not_isSome_iff_eq_none]

theorem State.isRunning_iff (s : State) : s.isRunning = true ↔ s.sl.nodeState = .running := by
  simp [State.isRunning]

theorem State.isStarting_iff (s : State) : s.isStarting = true ↔ s.sl.nodeState = .starting := by
  simp [State.isStarting]

theorem State.not_starting_of_running {s : State} (h : s.sl.nodeState = .running) : s.sl.nodeState ≠ .starting := by
  rw [h]; decide

/-! ## Samples and claims -/

theorem State.testPresence_moves (s : State) (c : ClientId) : Moves s (s.testPresence c) := by
  unfold State.testPresence
  split
  · refine .single (.seat (.seats _ fun r => ?_))
    split
    · rename_i h
      obtain ⟨st, b, hs, -⟩ := (SeatState.homeFor_iff _ _).mp h
      constructor <;> simp [SeatRecord.occupy, hs, SeatState.isContested, SeatState.holder]
    · exact ⟨rfl, rfl, fun h' hh => ⟨h', hh, rfl⟩⟩
  · exact .refl

theorem ClientEntry.fresh_listens {id : ClientId} {st : EntryState} {signal : Int} {sampled : Bool} {t : Time} (i : StreamId) :
    (ClientEntry.fresh id st signal sampled t).listens i = false := by
  simp [ClientEntry.listens, ClientEntry.fresh]

/-- A fresh entry takes no roam place but a claim's. -/
theorem Newcomer.of_fresh {s : State} {id : ClientId} {st : EntryState} {signal : Int} {sampled : Bool} {t : Time}
    (absent : s.findEntry id = none) (running : s.sl.nodeState = .running) (room : s.au.clients.length < s.par.limit)
    (range : (-400 ≤ signal ∧ signal ≤ -80) ∨ ∃ g ∈ s.au.sightings, g.signal = signal)
    (reserved : (∃ p x, st = .reserved p x) → s.au.clients.countP ClientEntry.isReserved < roamPlaces)
    (roamOut : ∀ p x, st ≠ .roamOut p x) : Newcomer s (ClientEntry.fresh id st signal sampled t) where
  absent := absent
  running := running
  room := room
  signal := range
  bindings := by simp [ClientEntry.fresh]
  subscriptions := by simp [ClientEntry.fresh]
  record := by simp [ClientEntry.fresh]
  silent := ClientEntry.fresh_listens
  reserved h := reserved (by
    cases st with
    | reserved p x => exact ⟨p, x, rfl⟩
    | _ => simp [ClientEntry.isReserved, ClientEntry.fresh] at h)
  roamOut := by
    cases st with
    | roamOut p x => exact absurd rfl (roamOut p x)
    | _ => rfl
  waits := by simp [ClientEntry.fresh]

theorem State.claim_moves {s : State} {g : Sighting} (held : g ∈ s.au.sightings) (absent : s.findEntry g.id = none)
    (claims : s.claims g = true) : Moves s (s.claim g) := by
  simp only [State.claims, Bool.and_eq_true, decide_eq_true_eq, ← List.countP_eq_length_filter] at claims
  obtain ⟨⟨⟨⟨⟨running, -⟩, -⟩, place⟩, room⟩, -⟩ := claims
  refine .trans (.single (.client (.create _ (.of_fresh absent (s.isRunning_iff.mp running) room (.inr ⟨g, held, rfl⟩)
    (fun _ => place) (by simp))))) (State.send_moves _ _ _)

theorem State.claimCheck_moves {s : State} {c : ClientId} (absent : s.findEntry c = none) : Moves s (s.claimCheck c) := by
  unfold State.claimCheck
  split
  · rename_i g h
    split
    · rename_i claims
      exact State.claim_moves (State.findSighting_mem h) (by rwa [State.findSighting_id h]) claims
    · exact .refl
  · exact .refl

theorem State.signalUpdate_moves (s : State) (c : ClientId) : Moves s (s.signalUpdate c) := by
  unfold State.signalUpdate
  refine .trans ?_ (State.testPresence_moves _ _)
  split
  · exact s.rescore_moves c
  · rename_i h
    exact State.claimCheck_moves ((s.not_hasEntry_iff c).mp h)

theorem State.sample_moves (s : State) (c : ClientId) (rssi : Int) (cell : Station) : Moves s (s.sample c rssi cell) := by
  unfold State.sample
  split
  · exact (s.updateEntry_moves c (ClientEntry.harmless_sampleWith rssi s.now)).trans (State.signalUpdate_moves _ _)
  · rename_i h
    split
    · exact .trans (.single (.client (.resight c (Sighting.sampleWith rssi cell s.now s.sightingRemoval)
        fun g => ⟨rfl, fun h => smooth_range rssi h.1 h.2⟩)))
        (State.signalUpdate_moves _ _)
    · exact .trans (.single (.client (.sight _ ((s.not_hasEntry_iff c).mp h) (firstSample_range rssi))))
        (State.signalUpdate_moves _ _)

theorem State.strayTest_moves (s : State) (r : UplinkRecord) : Moves s (s.strayTest r) := by
  unfold State.strayTest
  split
  · exact s.handReply_moves _
  · exact .refl

end Sys2Proof.Machine
end

section
/-! SUPPORT. The operations on streams, slots, cycles, subscriptions and contexts as runs of moves. -/

namespace Sys2Proof.Machine

/-! ## Slots (R125 to R130) -/

theorem State.airSegment_eq (s : State) (e : StreamEntry) (g : Segment) :
    s.airSegment e g =
      ((s.setRu { (s.ru.change e.id (StreamEntry.afterAiring g)) with
          cycle := { s.ru.cycle with units := s.ru.cycle.units + g.units } }).enqueueDownlink
        (.airSlot (e.airGroup.getD 0) e.id g.seq g.units e.joinMarker false g.data)).count .segmentsAired := by
  rw [State.enqueueDownlink_setRu, State.count_setRu]
  simp only [State.airSegment, State.updateStream, State.addUnits, State.count_setRu, State.setRu_ru, State.setRu_setRu,
    (State.enqueueDownlink_frame _ _).2.2.2.2.2.2.1, ReplayUnit.change]

theorem State.updateStream_eq (s : State) (i : StreamId) (f : StreamEntry → StreamEntry) :
    s.updateStream i f = s.setRu (s.ru.change i f) := rfl

/-- An underrun changes the Replay Unit, counts, and may air the aired segment again. -/
theorem State.underrun_cases (s : State) (e : StreamEntry) :
    s.underrun e = (s.setRu (s.ru.change e.id StreamEntry.afterUnderrun)).count .underruns ∨
      ∃ g r, e.aired = some g ∧ s.rp.downlink.length < downlinkPlaces ∧
        s.underrun e =
          ((s.setRu { (s.ru.change e.id StreamEntry.afterUnderrun) with
              cycle := { s.ru.cycle with units := s.ru.cycle.units + g.units } }).count .underruns).enqueueDownlink r := by
  simp only [State.underrun, State.fillSlot]
  split
  · rename_i g _ haired
    split
    · rename_i room
      refine .inr ⟨g, .airSlot (e.airGroup.getD 0) e.id g.seq g.units false true g.data, haired, ?_, ?_⟩
      · simpa [State.downlinkRoom] using room
      · simp only [State.updateStream, State.addUnits, State.count_setRu, State.enqueueDownlink_setRu, State.setRu_ru,
          State.setRu_setRu, (State.enqueueDownlink_frame _ _).2.2.2.2.2.2.1, (State.count_frame _ _).2.2.2.2.2.2.1,
          ReplayUnit.change]
    · left
      simp only [State.updateStream_eq, State.count_setRu, (State.count_frame _ _).2.2.2.2.2.2.1]
  · left
    simp only [State.updateStream_eq, State.count_setRu, (State.count_frame _ _).2.2.2.2.2.2.1]

theorem State.enqueueDownlink_moves (s : State) (r : Downlink) (room : s.rp.downlink.length < downlinkPlaces) :
    Moves s (s.enqueueDownlink r) := .single (.radio (.queue r room))

theorem State.slotStream_some {s : State} {k : Nat} {e : StreamEntry} (h : s.slotStream k = some e) :
    s.ru.find e.id = some e := by
  unfold State.slotStream at h
  split at h
  · rw [State.findStream_id h]; exact h
  · cases h

/-- A slot start is a change of the Replay Unit, and then what the radio link and the counters see of it. -/
theorem State.startSlot_moves (s : State) (k : Nat) :
    ∃ v, SlotStarts s.ru k v ∧ Moves (s.setRu v) (s.startSlot k) := by
  have none_aired : s.ru.slotStarted k 0 = { s.ru with cycle := { s.ru.cycle with slot := some k } } := rfl
  have under (e : StreamEntry) (found : s.ru.find e.id = some e) (active : e.activity = .active) :
      ∃ v, SlotStarts s.ru k v ∧
        Moves (s.setRu v) ((s.setRu { s.ru with cycle := { s.ru.cycle with slot := some k } }).underrun e) := by
    obtain h | ⟨g, r, haired, room, h⟩ := State.underrun_cases
        (s.setRu { s.ru with cycle := { s.ru.cycle with slot := some k } }) e
    · refine ⟨_, .underruns e 0 found active (.inl rfl), ?_⟩
      rw [h]
      exact State.count_moves _ _
    · refine ⟨_, .underruns e g.units found active (.inr ⟨g, haired, rfl⟩), ?_⟩
      rw [h]
      refine (State.count_moves _ .underruns).trans (State.enqueueDownlink_moves _ _ ?_)
      simpa using room
  unfold State.startSlot
  dsimp only
  split
  · exact ⟨_, .idle, by rw [none_aired]⟩
  · rename_i e he
    have found : s.ru.find e.id = some e := State.slotStream_some he
    split
    · rename_i active
      split
      · rename_i g due
        split
        · rename_i room
          refine ⟨_, .airs e g found active due, ?_⟩
          rw [State.airSegment_eq]
          refine (State.enqueueDownlink_moves _ _ ?_).trans (State.count_moves _ _)
          exact (State.downlinkRoom_iff _).mp room
        · exact under e found active
      · exact under e found active
    · exact ⟨_, .idle, by rw [none_aired]⟩

/-! ## Cycles (R122, R123, R133) -/

theorem State.startCycle_moves (s : State) (offset : Nat → Nat) :
    ∃ v, SlotStarts (s.ru.cycleStarted offset s.now) 0 v ∧ Moves (s.setRu v) (s.startCycle offset) :=
  State.startSlot_moves (s.setRu (s.ru.cycleStarted offset s.now)) 0

theorem State.flags_moves (s : State) (a : Announcement) (peers : a.peers = s.anu.peers)
    (notices : a.notices = s.anu.notices) (boundary : a.nextBoundary = s.anu.nextBoundary)
    (queued : ∀ k, (a.buffer k).queued = (s.anu.buffer k).queued) : Moves s (s.setAnu a) :=
  .single (.peer (.flags a peers notices boundary queued))

/-- The want list's comparison changes the STREAM_WANT buffer and the list alone. -/
theorem State.compareWants_eq (s : State) : s.compareWants = s.setAnu s.compareWants.anu := by
  unfold State.compareWants
  split <;> rfl

theorem State.setAnu_compareWants_moves (s u : State) (h : u.anu = s.anu) : Moves s (s.setAnu u.compareWants.anu) := by
  unfold State.compareWants
  split
  · rw [h]; exact .refl
  · refine s.flags_moves _ ?_ ?_ ?_ fun k => ?_
    · rw [← h]; rfl
    · rw [← h]; rfl
    · rw [← h]; rfl
    · rw [← h]; cases k <;> rfl

theorem State.wants_isEmpty_iff (s : State) : s.wants.isEmpty = true ↔ ∀ e ∈ s.ru.catalogue, e.counts = false := by
  have perm := sortBy_perm (fun e : StreamEntry => e.airGroup.getD 0) (s.ru.catalogue.filter StreamEntry.counts)
  rw [show s.wants = (sortBy (fun e : StreamEntry => e.airGroup.getD 0) (s.ru.catalogue.filter StreamEntry.counts)).map
    (·.id) from rfl, List.isEmpty_iff, List.map_eq_nil_iff]
  rw [← List.length_eq_zero_iff, perm.length_eq, List.length_eq_zero_iff, List.filter_eq_nil_iff]
  simp

theorem State.endCycle_moves (s : State) (running : s.ru.cycle.running = true) : Moves s s.endCycle := by
  let s1 := s.handOverU (occupancyOf s.ru.cycle.units s.par.slots)
  let s2 := s1.setRu { s1.ru with catalogue := clearLeaving s1.ru.catalogue }
  have scored (t u : State) : Moves t (t.setAu { t.au with clients := t.au.clients.map (fun e => { e with score := u.scoreOf e }) }) :=
    .single (.client (.edit _ fun e _ => e.harmless_score u.scoreOf_le))
  have first : Moves s ((s.setAu s1.au).setAnu s2.compareWants.anu) :=
    (scored s _).trans (State.setAnu_compareWants_moves _ _ rfl)
  have step3 : s2.compareWants = ((s.setAu s1.au).setAnu s2.compareWants.anu).setRu s2.ru := by
    conv => lhs; rw [State.compareWants_eq]
    rfl
  have wants_iff : s2.compareWants.wants.isEmpty = true ↔ ∀ e ∈ clearLeaving s.ru.catalogue, e.counts = false := by
    rw [State.wants_isEmpty_iff, (State.compareWants_frame s2).2.2.2.2.2.2.1]
    rfl
  have unfolded : s.endCycle =
      if s2.compareWants.wants.isEmpty then s2.compareWants.stopCycle else s2.compareWants.startNextCycle := rfl
  rw [unfolded]
  split
  · rename_i h
    refine (first.tail (.replay (.cycleEnd _ running (.stop (wants_iff.mp h))))).trans ?_
    rw [step3]
    exact scored _ _
  · rename_i h
    rw [wants_iff] at h
    push Not at h
    obtain ⟨e, he, counts⟩ := h
    obtain ⟨v, starts, rest⟩ := State.startCycle_moves s2.compareWants
      (fun a => (s2.compareWants.ru.cycle.offset + 1) % a)
    refine (first.tail (.replay (.cycleEnd v running (.restart v ⟨e, he, by simpa using counts⟩ ?_)))).trans ?_
    · rw [step3] at starts
      exact starts
    · rw [step3] at rest
      rw [step3]
      exact rest

theorem State.resetReplay_moves (s : State) (started : s.sl.nodeState ≠ .starting) : Moves s s.resetReplay := by
  let s1 := s.setRu
    { s.ru with
      catalogue := s.ru.catalogue.map StreamEntry.freed,
      cycle := { s.ru.cycle with running := false, offset := 0, active := [], slot := none, units := 0 } }
  have scored : Moves s (s.setAu (s1.handOverU 0).au) :=
    .single (.client (.edit _ fun e _ => e.harmless_score (State.scoreOf_le _)))
  let s2 := (s.setAu (s1.handOverU 0).au).setRu s.ru.emptied
  have unfolded : s.resetReplay =
      if s2.ru.catalogue.any (fun e => e.activity == .joining) then s2.startCycleFromStopped else s2 := rfl
  rw [unfolded]
  split
  · rename_i h
    obtain ⟨e, he, joining⟩ := List.any_eq_true.mp h
    obtain ⟨v, starts, rest⟩ := State.startCycle_moves s2 (fun _ => 0)
    exact (scored.tail (.replay (.reset v started (.restart v ⟨e, he, by simpa using joining⟩ starts)))).trans rest
  · rename_i h
    refine scored.tail (.replay (.reset _ started (.stop fun e he joining => h ?_)))
    exact List.any_eq_true.mpr ⟨e, he, by simpa using joining⟩

/-! ## Subscriptions (R17, R18) -/

theorem State.freeGroup_some {s : State} {g : Nat} (h : s.freeGroup = some g) :
    g < 8 ∧ ∀ x ∈ s.ru.catalogue, x.airGroup ≠ some g := by
  have small := List.mem_of_find?_eq_some h
  have free := List.find?_some h
  simp only [State.groupHeld, Bool.not_eq_true', List.any_eq_false, beq_iff_eq] at free
  exact ⟨by simpa using small, free⟩

/-- A count's rise is a change of the Replay Unit, and then what a cycle started by it sends. -/
theorem State.raiseCount_moves {s : State} {i : StreamId} {e : StreamEntry} (found : s.findStream i = some e)
    (live : e.ended = false) (group : e.activity = .dormant → s.freeGroup ≠ none) :
    ∃ v, Raises s.ru i s.now v ∧ Moves (s.setRu v) (s.raiseCount i) := by
  unfold State.raiseCount
  rw [found]
  dsimp only
  split
  · rename_i h
    obtain ⟨g, hg⟩ := Option.ne_none_iff_exists'.mp (group h.2)
    obtain ⟨small, free⟩ := State.freeGroup_some hg
    rw [hg]
    split
    · rename_i running
      exact ⟨_, .join e g found h.2 h.1 free small running, .refl⟩
    · rename_i stopped
      obtain ⟨v, starts, rest⟩ := State.startCycle_moves (s.updateStream i (StreamEntry.joined (some g))) (fun _ => 0)
      exact ⟨v, .start e g v found h.2 h.1 free small (Bool.eq_false_iff.mpr stopped) starts, rest⟩
  · rename_i h
    split
    · rename_i h'
      exact ⟨_, .revive e found h'.2 h'.1 live, .refl⟩
    · rename_i h'
      refine ⟨_, .more e found ?_, .refl⟩
      by_cases z : e.subscribers = 0
      · exact .inr ⟨fun a => h ⟨z, a⟩, fun a => h' ⟨z, a⟩⟩
      · exact .inl z

theorem State.subscribable_some {s : State} {i : StreamId} {e : StreamEntry} (h : s.subscribable i = some e) :
    s.findStream i = some e ∧ e.ended = false := by
  simpa [State.subscribable, Option.filter_eq_some_iff] using h

theorem State.applySubscription_moves {s : State} {c : ClientId} (i : StreamId) (started : s.sl.nodeState ≠ .starting)
    (counted : ∀ e, s.findEntry c = some e → e.state.counted = true) : Moves s (s.applySubscription c i) := by
  unfold State.applySubscription
  split
  · exact .refl
  rename_i e found
  dsimp only
  split
  · exact s.handReply_moves _
  rename_i st subscribable
  split_ifs with listed tier limit group
  · exact s.handReply_moves _
  · exact s.handReply_moves _
  · exact s.handReply_moves _
  · exact s.handReply_moves _
  · obtain ⟨stream, live⟩ := State.subscribable_some subscribable
    obtain ⟨v, raises, rest⟩ := State.raiseCount_moves
      (s := s.updateEntry c (fun e => { e with subscriptions := e.subscriptions ++ [i] })) stream live
      (fun dormant none_free => group ⟨dormant, none_free⟩)
    refine .trans (.single (.listener (.subscribe c i e v found (counted e found) listed (not_le.mp limit) started raises))) ?_
    exact rest.trans (State.handReply_moves _ _)

theorem EntryState.counted_of_associated {st : EntryState} (h : st = .associated) : st.counted = true := by rw [h]; rfl

theorem State.lowerCount_handReply (s : State) (r : Downlink) (i : StreamId) :
    (s.handReply r).lowerCount i = (s.lowerCount i).handReply r := by
  simp only [State.lowerCount, State.updateStream_eq, State.handReply_setRu, (State.handReply_frame _ _).2.2.2.2.2.2.1]

theorem State.withdrawStream_eq (s : State) (c : ClientId) (code : SubscribeCode) (i : StreamId) :
    s.withdrawStream c code i = (s.withdrawn (c, i)).handReply (.subscribeReply c i code none) := by
  rw [State.withdrawn, ← State.lowerCount_handReply]
  rfl

theorem State.withdrawn_handReply (s : State) (r : Downlink) (p : ClientId × StreamId) :
    (s.handReply r).withdrawn p = (s.withdrawn p).handReply r := by
  rw [State.withdrawn, State.withdrawn, ← State.lowerCount_handReply]
  simp only [State.updateEntry, State.handReply_setAu, (State.handReply_frame _ _).2.2.2.2.1]

theorem State.foldl_withdrawn_handReply (s : State) (r : Downlink) (l : List (ClientId × StreamId)) :
    l.foldl State.withdrawn (s.handReply r) = (l.foldl State.withdrawn s).handReply r := by
  induction l generalizing s with
  | nil => rfl
  | cons p l ih => rw [List.foldl_cons, State.withdrawn_handReply, ih, List.foldl_cons]

/-- The replies of several withdrawals may come after all of them. -/
theorem State.withdrawn_moves_withdrawStream (code : SubscribeCode) (l : List (ClientId × StreamId)) (s : State) :
    Moves (l.foldl State.withdrawn s) (l.foldl (fun s p => s.withdrawStream p.1 code p.2) s) := by
  induction l generalizing s with
  | nil => exact .refl
  | cons p l ih =>
    rw [List.foldl_cons, List.foldl_cons, State.withdrawStream_eq]
    refine .trans ?_ (ih _)
    rw [State.foldl_withdrawn_handReply]
    exact State.handReply_moves _ _

/-- Streams withdrawn from clients that list them, each once. -/
theorem State.withdrawStreams_moves {s : State} (code : SubscribeCode) (l : List (ClientId × StreamId))
    (listens : s.listed → l.Nodup ∧ ∀ p ∈ l, ∃ e, s.findEntry p.1 = some e ∧ e.listens p.2 = true) :
    Moves s (l.foldl (fun s p => s.withdrawStream p.1 code p.2) s) :=
  .trans (.single (.listener (.withdraw l listens))) (s.withdrawn_moves_withdrawStream code l)

theorem State.trimSubscriptions_moves {s : State} {c : ClientId} (n : Nat) (tierFell : Bool)
    (counted : ∀ e, s.findEntry c = some e → e.state.counted = true) : Moves s (s.trimSubscriptions c n tierFell) := by
  unfold State.trimSubscriptions
  split
  · exact .refl
  rename_i e found
  have pairs (u : State) (l : List StreamId) : l.foldl (fun s i => s.withdrawStream c .removed i) u =
      (l.map (fun i => (c, i))).foldl (fun s p => s.withdrawStream p.1 .removed p.2) u := by
    rw [List.foldl_map]
  have both (high : StreamId → Bool) :
      Moves s (((e.subscriptions.drop n).reverse ++ (e.subscriptions.take n).filter high).foldl
        (fun s i => s.withdrawStream c .removed i) s) := by
    rw [pairs]
    refine State.withdrawStreams_moves _ _ fun tidy => ⟨?_, ?_⟩
    · have nodup : (e.subscriptions.take n ++ e.subscriptions.drop n).Nodup := by
        rw [List.take_append_drop]
        exact tidy.2 e (State.findEntry_mem found)
      obtain ⟨first, last, apart⟩ := List.nodup_append.mp nodup
      refine List.Nodup.map (fun a b h => (Prod.mk.inj h).2) (List.nodup_append.mpr ⟨?_, ?_, ?_⟩)
      · exact List.nodup_reverse.mpr last
      · exact first.filter _
      · intro a ha b hb h
        exact apart b (List.mem_of_mem_filter hb) a (List.mem_reverse.mp ha) h.symm
    · intro p hp
      obtain ⟨i, hi, rfl⟩ := List.mem_map.mp hp
      refine ⟨e, found, ?_⟩
      have held : i ∈ e.subscriptions := by
        rcases List.mem_append.mp hi with hi | hi
        · exact List.mem_of_mem_drop (List.mem_reverse.mp hi)
        · exact List.mem_of_mem_take (List.mem_of_mem_filter hi)
      simp [ClientEntry.listens, counted e found, held]
  dsimp only
  split
  · rw [← List.foldl_append]
    exact both _
  · have := both (fun _ => false)
    rwa [List.filter_false, List.append_nil] at this

/-! ## Capability records (R14 to R16) -/

theorem decodeRecord_range (bytes : List Byte) :
    1 ≤ (decodeRecord bytes).maxSubscriptions ∧ (decodeRecord bytes).maxSubscriptions ≤ 4 := by
  dsimp only [decodeRecord]
  omega

theorem State.completeRecord_moves {s : State} {c : ClientId} (bytes : List Byte)
    (counted : ∀ e, s.findEntry c = some e → e.state.counted = true) : Moves s (s.completeRecord c bytes) := by
  unfold State.completeRecord
  split
  · exact .refl
  refine .trans (s.updateEntry_moves c fun e => ?_) (State.trimSubscriptions_moves _ _ ?_)
  · refine .of_same rfl rfl rfl (fun w => w) (fun w => w) ?_
    rintro ⟨h1, h2, h3, h4, h5, h6, h7, -⟩
    exact ⟨h1, h2, h3, h4, h5, h6, h7, fun r hr => by cases hr; exact decodeRecord_range bytes⟩
  · intro e he
    rw [State.findEntry_updateEntry_self] at he
    · obtain ⟨e', he', rfl⟩ := Option.map_eq_some_iff.mp he
      exact counted e' he'
    · exact fun _ => rfl

theorem ClientEntry.harmless_assembling (n : Nat) (bytes : List Byte) (e : ClientEntry) :
    ClientEntry.Harmless e (e.assembling n bytes) :=
  .of_same rfl rfl rfl (fun w => w) (fun w => w) fun h => h

theorem State.takePiece_moves {s : State} {e : ClientEntry} (index : Nat) (last : Bool) (data : List Byte)
    (counted : ∀ x, s.findEntry e.id = some x → x.state.counted = true) : Moves s (s.takePiece e index last data) := by
  have abandon (n : Nat) (bytes : List Byte) : Moves s (s.updateEntry e.id (ClientEntry.assembling n bytes)) :=
    s.updateEntry_moves e.id (ClientEntry.harmless_assembling n bytes)
  unfold State.takePiece
  split_ifs
  · exact State.completeRecord_moves _ counted
  · exact abandon _ _
  · exact State.completeRecord_moves _ counted
  · exact abandon _ _
  · exact abandon _ _
  · exact abandon _ _

theorem State.unsubscribe_moves {s : State} {e : ClientEntry} (i : StreamId) (found : s.findEntry e.id = some e)
    (counted : e.state.counted = true) : Moves s (s.unsubscribe e i) := by
  unfold State.unsubscribe
  refine .trans ?_ (State.handReply_moves _ _)
  split
  · rename_i held
    exact .single (.listener (.withdraw [(e.id, i)] fun _ =>
      ⟨List.nodup_singleton _, by simpa [found, ClientEntry.listens, counted] using held⟩))
  · exact .refl

/-! ## Contexts (R46, R59) -/

theorem State.endContextWait_moves (s : State) (c : ClientId) : Moves s (s.endContextWait c) :=
  s.updateEntry_moves c fun _ => .of_same rfl rfl rfl (fun w => w) (fun _ => rfl) fun h => h

/-- The client's entry is counted, if it has one. -/
def State.countedEntry (s : State) (c : ClientId) : Prop := ∀ e, s.findEntry c = some e → e.state.counted = true

theorem State.countedEntry_updateEntry {s : State} {c : ClientId} {f : ClientEntry → ClientEntry} (h : s.countedEntry c)
    (id : ∀ e, (f e).id = e.id) (state : ∀ e, (f e).state = e.state) : (s.updateEntry c f).countedEntry c := by
  intro e he
  rw [State.findEntry_updateEntry_self _ _ id] at he
  obtain ⟨e', he', rfl⟩ := Option.map_eq_some_iff.mp he
  rw [state]
  exact h e' he'

theorem State.countedEntry_congr {s t : State} {c : ClientId} (h : s.countedEntry c) (au : t.au = s.au) : t.countedEntry c := by
  unfold State.countedEntry State.findEntry
  rw [au]
  exact h

theorem State.countedEntry_applySubscription {s : State} {c : ClientId} (h : s.countedEntry c) (i : StreamId) :
    (s.applySubscription c i).countedEntry c := by
  unfold State.applySubscription
  split
  · exact h
  dsimp only
  split
  · exact State.countedEntry_congr h (by simp)
  split_ifs
  · exact State.countedEntry_congr h (by simp)
  · exact State.countedEntry_congr h (by simp)
  · exact State.countedEntry_congr h (by simp)
  · exact State.countedEntry_congr h (by simp)
  · exact State.countedEntry_congr (State.countedEntry_updateEntry (f := fun e => { e with subscriptions := e.subscriptions ++ [i] }) h
      (fun _ => rfl) (fun _ => rfl)) (by simp)

/-- Several streams applied afresh, whichever of them a test lets through (R51, R59). -/
theorem State.applySubscriptions_moves (c : ClientId) (f : State → StreamId → State)
    (one : ∀ s i, f s i = s ∨ f s i = s.applySubscription c i) (l : List StreamId) (s : State)
    (started : s.sl.nodeState ≠ .starting) (counted : s.countedEntry c) :
    Moves s (l.foldl f s) ∧ (l.foldl f s).countedEntry c := by
  induction l generalizing s with
  | nil => exact ⟨.refl, counted⟩
  | cons i l ih =>
    rw [List.foldl_cons]
    obtain h | h := one s i <;> rw [h]
    · exact ih s started counted
    · have first := State.applySubscription_moves i started counted
      obtain ⟨rest, still⟩ := ih _ (by rwa [first.keeps.1]) (State.countedEntry_applySubscription counted i)
      exact ⟨first.trans rest, still⟩

/-- A context's lists keep the ranges of an entry's (R202). -/
structure Context.Ranged (x : Context) : Prop where
  bindings : x.bindings.length ≤ 4 ∧ (x.bindings.map (·.serial)).Nodup
  subscriptions : x.subscriptions.length ≤ 4 ∧ x.subscriptions.Nodup
  record : ∀ r, x.record = some r → 1 ≤ r.maxSubscriptions ∧ r.maxSubscriptions ≤ 4

theorem parseContext_ranged {bs : List Byte} {x : Context} (h : parseContext bs = some x) : x.Ranged := by
  unfold parseContext at h
  dsimp only at h
  rw [Option.ite_none_left_eq_some] at h
  obtain ⟨lengths, h⟩ := h
  split at h
  · cases h
  rw [Option.ite_none_right_eq_some] at h
  obtain ⟨acceptable, h⟩ := h
  cases h
  simp only [Context.acceptable, Bool.and_eq_true, decide_eq_true_eq, Option.all_eq_true] at acceptable
  obtain ⟨⟨⟨⟨record, serials⟩, -⟩, streams⟩, -⟩ := acceptable
  simp only [not_or, not_lt] at lengths
  exact ⟨⟨by simpa using lengths.1, serials⟩, ⟨by simpa using lengths.2.1, streams⟩, record⟩

/-- The merge's first two steps on an entry: bindings appended, a record where there was none (R59). -/
def ClientEntry.merged (x : Context) (e : ClientEntry) : ClientEntry :=
  { e with bindings := mergeBindings e.bindings x.bindings, record := e.record.or x.record }

theorem ClientEntry.harmless_merged {x : Context} (ranged : x.Ranged) (e : ClientEntry) :
    ClientEntry.Harmless e (e.merged x) := by
  refine .of_same rfl rfl rfl (fun w => w) (fun w => w) ?_
  rintro ⟨h1, h2, h3, h4, h5, h6, h7, h8⟩
  obtain ⟨length, nodup⟩ := mergeBindings_spec e.bindings x.bindings h4 h5
  refine ⟨h1, h2, h3, length, nodup, h6, h7, fun r hr => ?_⟩
  rcases Option.or_eq_some_iff.mp hr with hr | ⟨-, hr⟩
  · exact h8 r hr
  · exact ranged.record r hr

theorem State.mergeStream_cases (c : ClientId) (s : State) (i : StreamId) :
    State.mergeStream c s i = s ∨ State.mergeStream c s i = s.applySubscription c i := by
  unfold State.mergeStream
  split
  · exact .inl rfl
  · exact .inr rfl

theorem State.mergeContext_moves {s : State} {c : ClientId} {x : Context} (ranged : x.Ranged)
    (started : s.sl.nodeState ≠ .starting) (counted : s.countedEntry c) : Moves s (s.mergeContext c x) := by
  have first : Moves s (s.updateEntry c (ClientEntry.merged x)) :=
    s.updateEntry_moves c (ClientEntry.harmless_merged ranged)
  have streams := State.applySubscriptions_moves c (State.mergeStream c) (State.mergeStream_cases c) x.subscriptions
    (s.updateEntry c (ClientEntry.merged x)) (by simpa using started)
    (State.countedEntry_updateEntry counted (fun _ => rfl) (fun _ => rfl))
  exact (first.trans streams.1).trans (State.endContextWait_moves _ _)

/-! ## Stream announcements and segments (R104 to R106, R117) -/

theorem State.announceLive_moves (s : State) (i : StreamId) (tier : Tier) (fill : Fill) :
    Moves s (s.announceLive i tier fill) := by
  unfold State.announceLive
  split
  · rename_i new
    exact .single (.replay (.insert i tier fill s.now new))
  · exact .single (.replay (.reannounce i tier fill s.now))

theorem State.findEntry_of_mem {s : State} {e : ClientEntry} (nodup : (s.au.clients.map (·.id)).Nodup)
    (h : e ∈ s.au.clients) : s.findEntry e.id = some e := by
  unfold State.findEntry
  induction hl : s.au.clients generalizing s with
  | nil => rw [hl] at h; cases h
  | cons x l ih =>
    rw [hl] at h nodup
    obtain ⟨fresh, nodup⟩ := List.nodup_cons.mp nodup
    rcases List.mem_cons.mp h with rfl | h
    · simp
    · have other : x.id ≠ e.id := fun same => fresh (List.mem_map.mpr ⟨e, h, same.symm⟩)
      rw [List.find?_cons_of_neg (by simpa using other)]
      exact ih (s := s.setAu { s.au with clients := l }) nodup h rfl

theorem State.mem_subscribersOf {s : State} {i : StreamId} {c : ClientId} :
    c ∈ s.subscribersOf i ↔ ∃ e ∈ s.au.clients, e.listens i = true ∧ e.id = c := by
  simp [State.subscribersOf, ClientEntry.listens, and_assoc]

/-- What several withdrawals of one stream leave of the client table. -/
theorem State.foldl_withdrawStream_clients (code : SubscribeCode) (i : StreamId) (l : List ClientId) (s : State) :
    (l.foldl (fun s c => s.withdrawStream c code i) s).au.clients =
      s.au.clients.map (fun e =>
        if e.id ∈ l then { e with subscriptions := e.subscriptions.filter (fun x => x != i) } else e) := by
  induction l generalizing s with
  | nil => simp
  | cons c l ih =>
    rw [List.foldl_cons, ih, State.withdrawStream_eq]
    simp only [(State.handReply_frame _ _).2.2.2.2.1, State.withdrawn, (State.lowerCount_frame _ _).2.2.2.2.1,
      State.updateEntry, State.setAu_au, List.map_map]
    refine List.map_congr_left fun e _ => ?_
    by_cases hc : e.id = c <;> by_cases hl : e.id ∈ l <;> simp [hc, hl]

/-- After its withdrawal from every subscriber no entry counts for the stream. -/
theorem State.endSubscriptions_unheard (s : State) (i : StreamId) :
    ∀ e ∈ (s.endSubscriptions i).au.clients, e.listens i = false := by
  unfold State.endSubscriptions
  rw [State.foldl_withdrawStream_clients]
  intro e he
  obtain ⟨e', he', rfl⟩ := List.mem_map.mp he
  have order : e'.id ∈ s.freeOrder (s.subscribersOf i) ↔ e'.id ∈ s.subscribersOf i := (sortBy_perm _ _).mem_iff
  split
  · simp [ClientEntry.listens]
  · rename_i h
    rw [order, State.mem_subscribersOf] at h
    by_contra listens
    exact h ⟨e', he', by simpa using listens, rfl⟩

theorem State.endSubscriptions_moves (s : State) (i : StreamId) : Moves s (s.endSubscriptions i) := by
  refine .trans (.single .drawn) ?_
  have pairs (u : State) (l : List ClientId) : l.foldl (fun s c => s.withdrawStream c .ended i) u =
      (l.map (fun c => (c, i))).foldl (fun s p => s.withdrawStream p.1 .ended p.2) u := by
    rw [List.foldl_map]
  unfold State.endSubscriptions
  rw [pairs]
  refine State.withdrawStreams_moves _ _ fun tidy => ⟨?_, ?_⟩
  · refine List.Nodup.map (fun a b h => (Prod.mk.inj h).1) ((sortBy_perm _ _).nodup_iff.mpr ?_)
    exact tidy.1.sublist (List.filter_sublist.map _)
  · intro p hp
    obtain ⟨c, hc, rfl⟩ := List.mem_map.mp hp
    obtain ⟨e, he, listens, rfl⟩ := State.mem_subscribersOf.mp ((sortBy_perm _ _).mem_iff.mp hc)
    exact ⟨e, State.findEntry_of_mem tidy.1 he, listens⟩

/-- A stream that has played keeps playing or leaves, whatever is taken from its count (R109). -/
def StreamEntry.airs (e : StreamEntry) : Prop := e.activity = .active ∨ e.activity = .leaving

theorem StreamEntry.airs_lowered {e : StreamEntry} (h : e.airs) : e.lowered.airs := by
  unfold StreamEntry.lowered
  dsimp only
  split
  · obtain h | h := h <;> simp [h, StreamEntry.airs]
  · exact h

theorem StreamEntry.lowered_id (e : StreamEntry) : e.lowered.id = e.id := by
  unfold StreamEntry.lowered
  dsimp only
  split
  · split <;> rfl
  · rfl

theorem State.endSubscriptions_airs {s : State} {i : StreamId} {e : StreamEntry} (found : s.findStream i = some e)
    (airs : e.airs) : ∃ e', (s.endSubscriptions i).findStream i = some e' ∧ e'.airs := by
  have fold (l : List ClientId) (u : State) (h : ∃ e, u.findStream i = some e ∧ e.airs) :
      ∃ e, (l.foldl (fun s c => s.withdrawStream c .ended i) u).findStream i = some e ∧ e.airs := by
    induction l generalizing u with
    | nil => exact h
    | cons c l ih =>
      obtain ⟨e, he, airs⟩ := h
      refine ih _ ⟨e.lowered, ?_, StreamEntry.airs_lowered airs⟩
      dsimp only
      rw [State.withdrawStream_eq, State.findStream, (State.handReply_frame _ _).2.2.2.2.2.2.1]
      refine (State.findStream_updateStream_self _ _ StreamEntry.lowered_id).trans ?_
      exact congrArg (Option.map StreamEntry.lowered) he
  exact fold _ _ ⟨e, found, airs⟩

theorem State.announceEnded_moves (s : State) (i : StreamId) : Moves s (s.announceEnded i) := by
  have heard := s.endSubscriptions_unheard i
  have deleted : Moves s ((s.endSubscriptions i).deleteStream i) :=
    (s.endSubscriptions_moves i).tail (.replay (.delete i heard))
  unfold State.announceEnded
  split
  · exact .refl
  rename_i e found
  split
  · exact .refl
  dsimp only
  split
  · rename_i active
    obtain ⟨e', found', airs⟩ := State.endSubscriptions_airs found (.inl active)
    refine (s.endSubscriptions_moves i).tail (.replay (.ending i e' heard found' ?_))
    obtain h | h := airs <;> rw [h] <;> decide
  · exact deleted
  · exact deleted
  · exact deleted

theorem State.takeSegment_moves (s : State) (a : Station) (i : StreamId) (q : Sequence) (n : Nat) (data : List Byte) :
    Moves s (s.takeSegment a i q n data) := by
  unfold State.takeSegment
  split
  · rename_i accepted
    simp only [State.acceptsSegment, Bool.and_eq_true, decide_eq_true_eq, beq_iff_eq, Option.any_eq_true,
      Bool.not_eq_true'] at accepted
    obtain ⟨⟨⟨-, length⟩, rfl⟩, e, found, wanted, kept⟩ := accepted
    exact .single (.replay (.cache i e { seq := q, data := data } length found wanted kept))
  · exact s.count_moves _

end Sys2Proof.Machine
end

section
/-! SUPPORT. The operations on seats, contests, tokens and roam exchanges as runs of moves. -/

namespace Sys2Proof.Machine

/-! ## What a hand-over does to the seats -/

/-- Seats, authority list and match state are the same: all of the Seat Validator but the pending tokens. -/
def State.SameSeats (s t : State) : Prop :=
  t.sv.seats = s.sv.seats ∧ t.sv.authority = s.sv.authority ∧ t.sv.matchState = s.sv.matchState

theorem State.SameSeats.refl (s : State) : s.SameSeats s := ⟨rfl, rfl, rfl⟩

theorem State.SameSeats.of_sv {s t : State} (h : t.sv = s.sv) : s.SameSeats t := by
  unfold State.SameSeats; rw [h]; exact ⟨rfl, rfl, rfl⟩

theorem State.SameSeats.trans {s t u : State} (h : s.SameSeats t) (h' : t.SameSeats u) : s.SameSeats u :=
  ⟨h'.1.trans h.1, h'.2.1.trans h.2.1, h'.2.2.trans h.2.2⟩

theorem State.settleTryAgain_sameSeats (s : State) (p : PendingToken) : s.SameSeats (s.settleTryAgain p) := by
  simp [State.settleTryAgain, State.erasePending, State.SameSeats]

theorem State.forwardLost_sameSeats (s : State) (c : ClientId) (n : Serial) (d : Station) :
    s.SameSeats (s.forwardLost c n d) := by
  unfold State.forwardLost
  split
  · split
    · exact s.settleTryAgain_sameSeats _
    · exact .refl s
  · exact .refl s

theorem State.reportRefusal_sameSeats (s : State) (f : TxFrame) : s.SameSeats (s.reportRefusal f) := by
  unfold State.reportRefusal
  split
  · exact s.forwardLost_sameSeats ..
  · exact .refl s

theorem State.evict_sameSeats (s : State) (old : TxFrame) : s.SameSeats (s.evict old) := by
  unfold State.evict
  dsimp only
  rw [State.reportLoss_eq]
  refine .trans ?_ (State.reportRefusal_sameSeats _ old)
  exact .of_sv (by simp)

theorem State.handOver_sameSeats (s : State) (f : TxFrame) : s.SameSeats (s.handOver f).1 := by
  obtain ⟨-, h⟩ | ⟨-, h⟩ | ⟨front, old, -, -, -, h⟩ | ⟨-, -, h⟩ := s.handOver_cases f <;> rw [h]
  · exact .refl s
  · exact .of_sv (by simp)
  · refine (s.evict_sameSeats old).trans ?_
    exact .of_sv (by simp)
  · refine .trans ?_ (State.reportRefusal_sameSeats _ f)
    exact .of_sv (by simp)

theorem State.send_sameSeats (s : State) (d : Station) (m : Message) : s.SameSeats (s.send d m) := s.handOver_sameSeats _

theorem State.releaseSeat_sameSeats (s : State) (h : Holder) (seat : Seat) : s.SameSeats (s.releaseSeat h seat) := by
  refine (s.send_sameSeats 0 (.seatReleased h.client h.serial seat)).trans ?_
  exact .of_sv (by simp [State.releaseSeat])

theorem State.releaseIncumbent_sameSeats (s : State) (seat : Seat) : s.SameSeats (s.releaseIncumbent seat) := by
  unfold State.releaseIncumbent
  split
  · exact s.releaseSeat_sameSeats _ _
  · exact .refl s

theorem State.SameSeats.findSeat {s t : State} (h : s.SameSeats t) (n : Seat) : t.findSeat n = s.findSeat n := by
  rw [State.findSeat, h.1, State.findSeat]

theorem State.SameSeats.findAuthority {s t : State} (h : s.SameSeats t) (n : Seat) :
    t.findAuthority n = s.findAuthority n := by
  rw [State.findAuthority, h.2.1, State.findAuthority]

/-! ## Seats (R73 to R86) -/

theorem State.seat_moves {s : State} {v : SeatValidator} (m : SeatMove (s.sl.nodeState = .running) s.sv v) :
    Moves s (s.setSv v) := .single (.seat m)

theorem SeatRecord.Tame.refl (r : SeatRecord) : SeatRecord.Tame r r := ⟨rfl, rfl, fun h' hh => ⟨h', hh, rfl⟩⟩

theorem SeatRecord.tame_occupy (now : Time) (r : SeatRecord) : SeatRecord.Tame r (r.occupy now) := by
  obtain ⟨number, state, heldSince, lastPresent⟩ := r
  cases state <;> exact ⟨rfl, rfl, fun h' hh => ⟨h', hh, rfl⟩⟩

theorem SeatRecord.tame_leaveSeat (now away : Time) (r : SeatRecord) : SeatRecord.Tame r (r.leaveSeat now away) := by
  unfold SeatRecord.leaveSeat
  split
  · rename_i h hs
    split
    · exact ⟨rfl, by simp [hs, SeatState.isContested], fun h' hh => ⟨h', by simpa [hs, SeatState.holder] using hh, rfl⟩⟩
    · exact .refl r
  · exact .refl r

theorem SeatRecord.tame_unblocked (r : SeatRecord) : SeatRecord.Tame r r.unblocked := by
  unfold SeatRecord.unblocked
  split
  · rename_i h
    exact ⟨rfl, by simp [h, SeatState.isContested], by simp [SeatState.holder]⟩
  · exact .refl r

/-- A seat's record with a change of one seat only. -/
theorem SeatMove.seatTame {running : Prop} {v : SeatValidator} (n : Seat) {f : SeatRecord → SeatRecord}
    (tame : ∀ r, SeatRecord.Tame r (f r)) : SeatMove running v { v with seats := changeSeat n f v.seats } := by
  refine .seats (fun r => if r.number == n then f r else r) fun r => ?_
  split
  · exact tame r
  · exact .refl r

theorem State.releaseSeat_moves (s : State) (h : Holder) (seat : Seat) : Moves s (s.releaseSeat h seat) :=
  (s.send_moves _ _).trans (State.releaseBinding_moves _ _ _ _)

theorem State.releaseIncumbent_moves (s : State) (seat : Seat) : Moves s (s.releaseIncumbent seat) := by
  unfold State.releaseIncumbent
  split
  · exact s.releaseSeat_moves _ _
  · exact .refl

theorem State.expireHold_moves (s : State) (seat : Seat) : Moves s (s.expireHold seat) := by
  unfold State.expireHold
  split
  · rename_i r found
    split
    · rename_i h hs
      split
      · refine .trans (s.seat_moves (.seat seat r SeatRecord.vacated found (fun _ => rfl) ?_)) (State.releaseSeat_moves _ _ _)
        exact ⟨rfl, by simp [SeatRecord.vacated, hs, SeatState.isContested], by simp [SeatRecord.vacated, SeatState.holder]⟩
      · exact .refl
    · exact .refl
  · exact .refl

theorem State.free_of_serialElsewhere {s : State} {serial : Serial} {n : Seat} (h : s.serialElsewhere serial n = false) :
    s.sv.Free n serial := by
  simp only [State.serialElsewhere, Bool.or_eq_false_iff, List.any_eq_false, Bool.and_eq_true, bne_iff_ne, beq_iff_eq,
    Option.any_eq_true, not_and, not_exists] at h
  exact ⟨fun r hr other x hx same => h.1 r hr other x hx same, fun a ha other same => h.2 a ha other same⟩

theorem State.raiseContest_moves {s : State} {seat : Seat} {r : SeatRecord} {st : BoundState} {b h : Holder}
    (running : s.sl.nodeState = .running) (found : s.findSeat seat = some r) (bound : r.state = .bound st b)
    (free : s.sv.Free seat h.serial) : Moves s (s.raiseContest seat st b h).1 := by
  unfold State.raiseContest
  split
  · exact .refl
  · rename_i place
    dsimp only
    refine .trans ?_ ((State.send_moves _ _ _).trans (State.count_moves _ _))
    exact s.seat_moves (.contest r st b
      { seat := seat, reason := if b.serial = h.serial then .duplicateSerial else .doubleSale, challenger := h, attempts := 1,
        expiry := s.now + seconds authoritySeconds } running found bound (not_le.mp place) free)

theorem State.refreshSeat_moves {s : State} {seat : Seat} {r : SeatRecord} {st : BoundState} {b h : Holder}
    (found : s.findSeat seat = some r) (bound : r.state = .bound st b) (same : b.serial = h.serial) :
    Moves s (s.refreshSeat seat st h).1 := by
  have first : Moves s (s.updateSeat seat (fun r => { r with state := .bound st h })) :=
    s.seat_moves (.seat seat r _ found (fun _ => rfl)
      ⟨rfl, by simp [bound, SeatState.isContested], by simpa [bound, SeatState.holder] using same⟩)
  unfold State.refreshSeat
  dsimp only
  split
  · exact first.trans (State.seat_moves (.seatTame seat (SeatRecord.tame_occupy _)))
  · exact first

theorem State.bindSeat_moves {s : State} {seat : Seat} {r : SeatRecord} {h : Holder} (found : s.findSeat seat = some r)
    (vacant : r.state = .vacant) (free : s.sv.Free seat h.serial) : Moves s (s.bindSeat seat h).1 := by
  unfold State.bindSeat
  split
  · exact s.seat_moves (.bind seat r _ .occupied h found vacant (fun _ => rfl) rfl free)
  · exact s.seat_moves (.bind seat r _ .held h found vacant (fun _ => rfl) rfl free)

theorem State.decideSeat_moves {s : State} (running : s.sl.nodeState = .running) (seat : Seat) (h : Holder) :
    Moves s (s.decideSeat seat h).1 := by
  unfold State.decideSeat
  split
  · exact .refl
  rename_i r found
  split_ifs with blocked elsewhere
  · exact .refl
  · exact .refl
  have free := State.free_of_serialElsewhere (Bool.eq_false_iff.mpr elsewhere)
  split
  · exact .refl
  · exact .refl
  · rename_i vacant
    exact State.bindSeat_moves found vacant free
  · rename_i st b bound
    split
    · rename_i same
      exact State.refreshSeat_moves found bound same.1
    · exact State.raiseContest_moves running found bound free

/-! ## Verdicts (R92 to R98) -/

theorem State.findAuthority_seat {s : State} {n : Seat} {a : AuthorityEntry} (h : s.findAuthority n = some a) : a.seat = n := by
  simpa using List.find?_some h

theorem State.tellChallenger_moves (s : State) (a : AuthorityEntry) (k : TokenCode) : Moves s (s.tellChallenger a k) := by
  unfold State.tellChallenger
  dsimp only
  split
  · exact s.deliverUnsolicited_moves ..
  · exact s.send_moves _ _

/-- The end of a contest: the seat takes its state, and the authority entry goes. -/
theorem State.settle_moves {s : State} {a : AuthorityEntry} {f : SeatRecord → SeatRecord}
    (found : s.findAuthority a.seat = some a) (number : ∀ r, (f r).number = r.number)
    (contested : ∀ r, (f r).state.isContested = false)
    (holder : ∀ r h', (f r).state.holder = some h' → h' = a.challenger ∨ ∃ h, r.state.holder = some h ∧ h.serial = h'.serial) :
    Moves s ((s.updateSeat a.seat f).eraseAuthority a.seat) :=
  s.seat_moves (.settle a.seat a f found number contested holder)

theorem SeatRecord.restored_holder (r : SeatRecord) : r.restored.state.holder = r.state.holder := by
  obtain ⟨number, state, heldSince, lastPresent⟩ := r
  cases state <;> rfl

theorem SeatRecord.restored_number (r : SeatRecord) : r.restored.number = r.number := by
  obtain ⟨number, state, heldSince, lastPresent⟩ := r
  cases state <;> rfl

theorem SeatRecord.restored_contested (r : SeatRecord) : r.restored.state.isContested = false := by
  obtain ⟨number, state, heldSince, lastPresent⟩ := r
  cases state <;> rfl

theorem State.applyKeep_moves {s : State} {a : AuthorityEntry} (found : s.findAuthority a.seat = some a) :
    Moves s (s.applyKeep a) := by
  have settled := State.settle_moves found SeatRecord.restored_number SeatRecord.restored_contested
    fun r h' hh => .inr ⟨h', by rwa [SeatRecord.restored_holder] at hh, rfl⟩
  exact (settled.trans (State.tellChallenger_moves _ a _)).trans (State.expireHold_moves _ _)

theorem State.applyReplace_moves {s : State} {a : AuthorityEntry} (found : s.findAuthority a.seat = some a) :
    Moves s (s.applyReplace a) := by
  have still : (s.releaseIncumbent a.seat).findAuthority a.seat = some a := by
    rwa [(s.releaseIncumbent_sameSeats a.seat).findAuthority]
  have settled := State.settle_moves
    (f := fun r => { r with state := .bound .held a.challenger, heldSince := (s.releaseIncumbent a.seat).now })
    still (fun _ => rfl) (fun _ => rfl) fun r h' hh => .inl (Option.some.inj hh).symm
  exact ((s.releaseIncumbent_moves a.seat).trans settled).trans (State.tellChallenger_moves _ a _)

theorem State.applyBlock_moves {s : State} {a : AuthorityEntry} (found : s.findAuthority a.seat = some a) :
    Moves s (s.applyBlock a) := by
  have still : (s.releaseIncumbent a.seat).findAuthority a.seat = some a := by
    rwa [(s.releaseIncumbent_sameSeats a.seat).findAuthority]
  have settled := State.settle_moves (f := fun r => { r with state := .blocked }) still (fun _ => rfl) (fun _ => rfl)
    fun r h' hh => nomatch hh
  exact ((s.releaseIncumbent_moves a.seat).trans settled).trans (State.tellChallenger_moves _ a _)

theorem State.answer_moves (s : State) (f : RxFrame) (v : Verdict) {apply : State → AuthorityEntry → State}
    (moves : ∀ a, s.findAuthority a.seat = some a → Moves s (apply s a)) : Moves s (s.answer f v apply) := by
  unfold State.answer
  split
  · rename_i a found
    obtain ⟨seat, -, found⟩ := Option.bind_eq_some_iff.mp found
    exact moves a (by rwa [State.findAuthority_seat found])
  · exact .refl

/-! ## Tokens (R65 to R72, R75) -/

theorem State.findPending_none {s : State} {c : ClientId} {n : Serial} (h : s.findPending c n = none) :
    ∀ q ∈ s.sv.pendingTokens, q.matches c n = false := by
  simpa [State.findPending, List.find?_eq_none] using h

theorem State.forwardToken_moves {s : State} (running : s.sl.nodeState = .running) (c : ClientId) (t : Token) (d : Station) :
    Moves s (s.forwardToken c t d) := by
  unfold State.forwardToken
  split_ifs with absorbed full
  · exact .refl
  · exact s.deliver_moves ..
  · refine .trans (s.seat_moves (.pend _ running (not_le.mp full) ?_)) (State.send_moves _ _ _)
    exact State.findPending_none (Option.not_isSome_iff_eq_none.mp absorbed)

theorem State.routeToken_moves {s : State} (running : s.sl.nodeState = .running) (c : ClientId) (t : Token) :
    Moves s (s.routeToken c t) := by
  unfold State.routeToken
  split_ifs
  · exact (State.decideSeat_moves running _ _).trans (State.deliver_moves _ _ _ _ _ _)
  · exact State.forwardToken_moves running _ _ _
  · exact State.forwardToken_moves running _ _ _

theorem State.tokenRefusal_none {s : State} {t : Token} (h : s.tokenRefusal t = none) :
    s.sv.matchState ≠ .closed ∧ s.sl.nodeState = .running := by
  unfold State.tokenRefusal at h
  split_ifs at h with closed running
  exact ⟨closed, s.isRunning_iff.mp (by simpa using running)⟩

theorem State.takeToken_moves (s : State) (c : ClientId) (t : Token) : Moves s (s.takeToken c t) := by
  unfold State.takeToken
  split
  · exact s.deliver_moves ..
  · rename_i h
    exact State.routeToken_moves (State.tokenRefusal_none h).2 c t

theorem State.answerForward_moves (s : State) (a : Station) (c : ClientId) (t : Token) : Moves s (s.answerForward a c t).1 := by
  unfold State.answerForward
  split_ifs with closed running
  · exact .refl
  · exact .refl
  · exact State.decideSeat_moves (s.isRunning_iff.mp (by simpa using running)) _ _

theorem PendingToken.matches_iff (p : PendingToken) (c : ClientId) (n : Serial) :
    p.matches c n = true ↔ p.client = c ∧ p.token.serial = n := by simp [PendingToken.matches]

theorem State.reforward_moves (s : State) (p : PendingToken) : Moves s (s.reforward p) := by
  refine .trans (s.seat_moves (.retarget _ fun x => ?_)) (State.send_moves _ _ _)
  split
  · rename_i h
    obtain ⟨h1, h2⟩ := (x.matches_iff _ _).mp h
    simp [h1, h2]
  · rfl

theorem State.takeResult_moves (s : State) (a : Station) (c : ClientId) (n : Serial) (seat : Seat) (k : TokenCode) :
    Moves s (s.takeResult a c n seat k) := by
  unfold State.takeResult
  split
  · split
    · exact s.reforward_moves _
    · exact (s.erasePending_moves c n).trans (State.deliver_moves _ _ _ _ _ _)
  · exact s.deliverUnsolicited_moves ..

/-! ## The match state (R82 to R84) -/

theorem State.clearSeats_moves (s : State) : Moves s s.clearSeats := s.seat_moves .clear

theorem State.answerPending_moves (s : State) (k : TokenCode) : Moves s (s.answerPending k) := by
  have emptied : Moves s (s.setSv { s.sv with pendingTokens := [] }) := s.seat_moves (.settled [] (List.nil_sublist _))
  unfold State.answerPending
  exact emptied.trans (Moves.fold (fun s p => s.deliver_moves ..) _ _)

theorem State.emptyBindings_moves (s : State) : Moves s s.emptyBindings := by
  have emptied : Moves s.drawn (s.drawn.setAu
      { s.drawn.au with clients := s.drawn.au.clients.map (fun e => { e with bindings := [] }) }) :=
    .single (.client (.edit _ fun e _ => e.harmless_bindings fun _ _ => ⟨by simp, by simp⟩))
  exact .trans (.single .drawn) (emptied.trans (Moves.fold State.removeIfInactive_moves _ _))

theorem State.closeMatch_moves (s : State) : Moves s s.closeMatch :=
  (s.seat_moves (.matchState .closed)).trans
    (((State.clearSeats_moves _).trans (State.answerPending_moves _ _)).trans (State.emptyBindings_moves _))

/-! ## Roam exchanges (R41 to R59) -/

theorem State.deny_moves (s : State) (a : Station) (c : ClientId) (k : DenyReason) : Moves s (s.deny a c k) :=
  s.send_moves _ _

theorem State.grant_moves {s : State} {a : Station} {e x : ClientEntry} (found : s.findEntry e.id = some x)
    (associated : x.state = .associated) (free : x.holdDown = none)
    (place : s.au.clients.countP ClientEntry.isRoamOut < roamPlaces) : Moves s (s.grant a e) := by
  unfold State.grant
  refine .trans (.single (.client (.grant e.id x a (s.now + grantTime) found associated free place))) ?_
  exact ((State.send_moves _ _ _).trans (State.handReply_moves _ _)).trans (State.count_moves _ _)

/-- A rescored table holds as many entries of each roam state. -/
theorem State.countP_updateEntry (s : State) (c : ClientId) {f : ClientEntry → ClientEntry} {p : ClientEntry → Bool}
    (h : ∀ e, p (f e) = p e) : (s.updateEntry c f).au.clients.countP p = s.au.clients.countP p := by
  simp only [State.updateEntry, State.setAu_au, List.countP_map]
  congr 1
  funext e
  simp only [Function.comp_apply]
  split
  · exact h e
  · rfl

theorem State.findEntry_rescore (s : State) (c : ClientId) :
    (s.rescore c).findEntry c = (s.findEntry c).map (fun e => { e with score := s.scoreOf e }) :=
  s.findEntry_updateEntry_self c (f := fun e => { e with score := s.scoreOf e }) fun _ => rfl

theorem State.decideClaim_moves (s : State) (a : Station) (c : ClientId) (n : Nat) : Moves s (s.decideClaim a c n) := by
  unfold State.decideClaim
  split
  · exact s.deny_moves ..
  rename_i e found
  split
  · exact s.deny_moves ..
  · exact s.deny_moves ..
  · exact s.deny_moves ..
  rename_i associated
  split_ifs with full held
  · exact s.deny_moves ..
  · exact s.deny_moves ..
  dsimp only
  split
  · exact (s.rescore_moves c).trans (State.deny_moves _ _ _ _)
  · refine (s.rescore_moves c).trans (State.grant_moves (x := { e with score := s.scoreOf e }) ?_ associated ?_ ?_)
    · have same := State.findEntry_id found
      subst same
      refine (State.findEntry_rescore s e.id).trans ?_
      rw [found]
      rfl
    · simpa using held
    · rw [State.rescore, State.countP_updateEntry s c (f := fun e => { e with score := s.scoreOf e }) fun _ => rfl,
        List.countP_eq_length_filter]
      exact not_le.mp full

theorem ClientEntry.listens_uncounted {e : ClientEntry} (h : e.state.counted = false) (i : StreamId) : e.listens i = false := by
  rw [ClientEntry.listens, h, Bool.false_and]

theorem State.takeGrant_moves {s : State} {a peer : Station} {c : ClientId} {x : Context} {e : ClientEntry} {t : Time}
    (ranged : x.Ranged) (found : s.findEntry c = some e) (reserved : e.state = .reserved peer t) :
    Moves s (s.takeGrant a c x) := by
  refine .single (.client (.restate c e _ found (fun _ => rfl) ?_))
  refine ⟨rfl, fun i => ?_, fun _ => ranged.subscriptions.2, ?_, nofun, nofun, ?_⟩
  · rw [ClientEntry.listens_uncounted rfl, ClientEntry.listens_uncounted (by rw [reserved]; rfl)]
  · rintro ⟨h1, h2, h3, -⟩
    exact ⟨h1, h2, h3, ranged.bindings.1, ranged.bindings.2, ranged.subscriptions.1, ranged.subscriptions.2, ranged.record⟩
  · intro h _
    exact h (by rw [reserved]; exact nofun)

theorem State.takeLateGrant_moves {s : State} {a : Station} {c : ClientId} {x : Context} (ranged : x.Ranged)
    (absent : s.findEntry c = none) (running : s.sl.nodeState = .running) (room : s.au.clients.length < s.par.limit) :
    Moves s (s.takeLateGrant a c x) :=
  .single (.client (.create _ {
    absent := absent, running := running, room := room, signal := .inl (by simp [ClientEntry.install, ClientEntry.fresh]),
    bindings := ranged.bindings, subscriptions := ranged.subscriptions, record := ranged.record,
    silent := fun i => ClientEntry.listens_uncounted rfl i, reserved := nofun, roamOut := rfl, waits := ⟨rfl, rfl⟩ }))

theorem State.countedEntry_of_found {s : State} {c : ClientId} {e : ClientEntry} (found : s.findEntry c = some e)
    (counted : e.state.counted = true) : s.countedEntry c := by
  intro e' he'
  rw [found] at he'
  cases he'
  exact counted

theorem ClientEntry.awaits_associated {e : ClientEntry} {a : Station} (h : e.awaits a = true) : e.state = .associated := by
  simp only [ClientEntry.awaits, Bool.and_eq_true, beq_iff_eq] at h
  exact h.1

theorem State.mergeGrant_moves {s : State} {a : Station} {e : ClientEntry} {x : Context} (ranged : x.Ranged)
    (started : s.sl.nodeState ≠ .starting) (found : s.findEntry e.id = some e) : Moves s (s.mergeGrant a e x) := by
  unfold State.mergeGrant
  refine .trans ?_ (State.send_moves _ _ _)
  split
  · rename_i awaits
    exact State.mergeContext_moves ranged started
      (State.countedEntry_of_found found (EntryState.counted_of_associated (ClientEntry.awaits_associated awaits)))
  · exact .refl

theorem State.decideGrant_moves {s : State} (a : Station) (c : ClientId) {x : Context} (ranged : x.Ranged)
    (started : s.sl.nodeState ≠ .starting) : Moves s (s.decideGrant a c x) := by
  unfold State.decideGrant
  split
  · rename_i absent
    split
    · rename_i h
      simp only [Bool.and_eq_true, decide_eq_true_eq, State.isRunning_iff] at h
      exact State.takeLateGrant_moves ranged absent h.1 h.2
    · exact s.send_moves _ _
  rename_i e found
  have self : s.findEntry e.id = some e := by rwa [State.findEntry_id found]
  split
  · rename_i reserved
    split
    · exact State.takeGrant_moves ranged found reserved
    · exact s.send_moves _ _
  · split
    · exact .refl
    · exact s.send_moves _ _
  · exact State.mergeGrant_moves ranged started self
  · exact State.mergeGrant_moves ranged started self

theorem State.endReservation_moves {s : State} {c : ClientId} {e : ClientEntry} (found : s.findEntry c = some e)
    (peer : Station) : Moves s (s.endReservation e peer) :=
  .single (.listener (.endReservation e peer (by rwa [State.findEntry_id found])))

theorem State.takeDenial_moves (s : State) (a : Station) (c : ClientId) : Moves s (s.takeDenial a c) := by
  unfold State.takeDenial
  split
  · rename_i e found
    split
    · split
      · exact State.endReservation_moves found _
      · exact .refl
    · exact .refl
  · exact .refl

theorem State.returnEntry_moves {s : State} {c : ClientId} {e : ClientEntry} {peer : Station} {t : Time}
    (found : s.findEntry c = some e) (roamOut : e.state = .roamOut peer t) (holdDown : Option Time) :
    Moves s (s.returnEntry c holdDown) := by
  refine .trans (.single (.client (.restate c e (fun e => { e with state := .associated, holdDown := holdDown }) found
    (fun _ => rfl) ?_))) (State.handReply_moves _ _)
  refine ⟨rfl, fun i => ?_, fun h => h, fun h => h, nofun, nofun, fun _ h => absurd rfl h⟩
  simp [ClientEntry.listens, EntryState.counted, roamOut]

theorem State.takeReturn_moves (s : State) (a : Station) (c : ClientId) : Moves s (s.takeReturn a c) := by
  unfold State.takeReturn
  split
  · rename_i e found
    split
    · rename_i roamOut
      split
      · exact State.returnEntry_moves found roamOut _
      · exact .refl
    · exact .refl
  · exact .refl

theorem State.followMove_moves {s : State} {c : ClientId} {e : ClientEntry} (cell : Station)
    (found : s.findEntry c = some e) (associated : e.state = .associated) : Moves s (s.followMove c cell) := by
  unfold State.followMove
  split
  · refine .trans (.single (.client (.restate c e
      (fun e => { e with contextWait := some { oldStation := cell, expiry := s.now + contextWaitTime } }) found
      (fun _ => rfl) ?_))) (State.send_moves _ _ _)
    exact ⟨rfl, fun i => rfl, fun h => h, fun h => h, fun h => h, fun h => h, fun _ h => absurd associated h⟩
  · exact .refl

theorem State.takeMoved_moves (s : State) (a : Station) (c : ClientId) (w : Bool) : Moves s (s.takeMoved a c w) := by
  unfold State.takeMoved
  refine .trans ?_ (State.removeEntry_moves _ _)
  split
  · exact s.send_moves _ _
  · exact .refl

theorem State.takeContext_moves {s : State} (a : Station) (c : ClientId) {x : Option Context}
    (ranged : ∀ y, x = some y → y.Ranged) (started : s.sl.nodeState ≠ .starting) : Moves s (s.takeContext a c x) := by
  unfold State.takeContext
  split
  · rename_i e found
    split
    · rename_i awaits
      split
      · exact State.mergeContext_moves (ranged _ rfl) started
          (State.countedEntry_of_found found (EntryState.counted_of_associated (ClientEntry.awaits_associated awaits)))
      · exact s.endContextWait_moves c
    · exact .refl
  · exact .refl

/-! ## Joins (R8 to R10, R51, R55) -/

theorem State.replyJoin_moves (s : State) (c : ClientId) (k : JoinCode) (d : Option Station) : Moves s (s.replyJoin c k d) :=
  (s.handReply_moves _).trans (State.count_moves _ _)

theorem State.activate_moves {s : State} {e : ClientEntry} {peer : Station} {t : Time} (started : s.sl.nodeState ≠ .starting)
    (found : s.findEntry e.id = some e) (roamIn : e.state = .roamIn peer t) : Moves s (s.activate e peer) := by
  unfold State.activate
  have first : Moves s (s.updateEntry e.id fun e =>
      { e with state := .associated, holdDown := some (s.now + holdDownTime), subscriptions := [] }) := by
    refine .single (.client (.restate e.id e _ found (fun _ => rfl) ?_))
    refine ⟨rfl, fun i => ?_, fun _ => List.nodup_nil, ?_, nofun, nofun, fun _ h => absurd rfl h⟩
    · rw [ClientEntry.listens_uncounted (e := e) (by rw [roamIn]; rfl)]
      simp [ClientEntry.listens]
    · rintro ⟨h1, h2, h3, h4, h5, -, -, h6⟩
      exact ⟨h1, h2, h3, h4, h5, by simp, List.nodup_nil, h6⟩
  have counted : (s.updateEntry e.id fun e =>
      { e with state := .associated, holdDown := some (s.now + holdDownTime), subscriptions := [] }).countedEntry e.id := by
    intro x hx
    rw [State.findEntry_updateEntry_self s e.id (f := fun e : ClientEntry =>
      { e with state := .associated, holdDown := some (s.now + holdDownTime), subscriptions := [] }) fun _ => rfl] at hx
    obtain ⟨y, -, rfl⟩ := Option.map_eq_some_iff.mp hx
    rfl
  have streams := State.applySubscriptions_moves e.id (fun s i => s.applySubscription e.id i) (fun _ _ => .inr rfl)
    e.subscriptions _ (by simpa using started) counted
  exact (first.trans streams.1).trans ((State.send_moves _ _ _).trans (State.count_moves _ _))

theorem find_putBy_new {α : Type} {key : α → Nat} {x : α} {p : α → Bool} {l : List α} (hx : p x = true)
    (absent : ∀ y ∈ l, p y = false) : (putBy key x l).find? p = some x := by
  induction l with
  | nil => simp [putBy, hx]
  | cons z zs ih =>
    have hz : p z = false := absent z List.mem_cons_self
    simp only [putBy]
    split
    · simp [hx]
    · split
      · simp [hx]
      · rw [List.find?_cons_of_neg (by simp [hz])]
        exact ih fun y hy => absent y (List.mem_cons_of_mem _ hy)

theorem State.findEntry_none {s : State} {c : ClientId} (h : s.findEntry c = none) : ∀ e ∈ s.au.clients, e.id ≠ c := by
  simpa [State.findEntry, List.find?_eq_none] using h

/-- A created entry is found, with the score of the moment. -/
theorem State.findEntry_createEntry {s : State} {e : ClientEntry} (absent : s.findEntry e.id = none) :
    ∃ n, (s.createEntry e).findEntry e.id = some { e with score := n } := by
  let u := (s.eraseSighting e.id).setAu
    { (s.eraseSighting e.id).au with clients := putBy (fun x => x.id.toNat) e s.au.clients }
  have found : u.findEntry e.id = some e :=
    find_putBy_new (by simp) fun y hy => by simpa using State.findEntry_none absent y hy
  have scored := State.findEntry_rescore u e.id
  rw [found] at scored
  exact ⟨_, scored⟩

/-- A signal update changes at most the score of an entry. -/
theorem State.findEntry_signalUpdate {s : State} {c : ClientId} {e : ClientEntry} (found : s.findEntry c = some e) :
    ∃ n, (s.signalUpdate c).findEntry c = some { e with score := n } := by
  have has : s.hasEntry c = true := (s.hasEntry_iff c).mpr ⟨e, found⟩
  refine ⟨s.scoreOf e, ?_⟩
  rw [State.signalUpdate, if_pos has, State.findEntry, (State.testPresence_frame _ _).2.2.2.2.1]
  refine (State.findEntry_rescore s c).trans ?_
  rw [found]
  rfl

theorem State.findEntry_replyJoin (s : State) (c d : ClientId) (k : JoinCode) (x : Option Station) :
    (s.replyJoin c k x).findEntry d = s.findEntry d := by
  rw [State.findEntry, State.findEntry, State.replyJoin]
  simp

theorem State.admitClient_moves {s : State} {r : UplinkRecord} (absent : s.findEntry r.client = none)
    (running : s.sl.nodeState = .running) (room : s.au.clients.length < s.par.limit) : Moves s (s.admitClient r) := by
  have admitted (e : ClientEntry) (id : e.id = r.client) (associated : e.state = .associated) (new : Newcomer s e) :
      Moves s ((((s.createEntry e).replyJoin r.client .accepted none).signalUpdate r.client).followMove r.client r.cell) := by
    obtain ⟨n, found⟩ := State.findEntry_createEntry new.absent
    have found' : ((s.createEntry e).replyJoin r.client .accepted none).findEntry r.client = some { e with score := n } := by
      rw [State.findEntry_replyJoin, ← id]
      exact found
    obtain ⟨m, found''⟩ := State.findEntry_signalUpdate found'
    refine .trans (.single (.client (.create e new))) (.trans (State.replyJoin_moves _ _ _ _)
      (.trans (State.signalUpdate_moves _ _) (State.followMove_moves r.cell found'' associated)))
  unfold State.admitClient
  dsimp only
  split
  · rename_i g found
    exact admitted _ rfl rfl (.of_fresh absent running room (.inr ⟨g, State.findSighting_mem found, rfl⟩) (by simp) (by simp))
  · exact admitted _ rfl rfl (.of_fresh absent running room (.inl (firstSample_range _)) (by simp) (by simp))

theorem State.handleJoin_moves (s : State) (r : UplinkRecord) : Moves s (s.handleJoin r) := by
  unfold State.handleJoin
  split
  · exact s.replyJoin_moves ..
  rename_i running
  have running : s.sl.nodeState = .running := s.isRunning_iff.mp (by simpa using running)
  split
  · rename_i e found
    have self : s.findEntry e.id = some e := by rwa [State.findEntry_id found]
    have replied := s.replyJoin_moves r.client .accepted none
    split
    · exact replied
    · rename_i roamIn
      refine replied.trans (State.activate_moves ?_ (by rwa [State.findEntry_replyJoin]) roamIn)
      rw [replied.keeps.1]
      exact State.not_starting_of_running running
    · rename_i roamOut
      exact replied.trans (State.returnEntry_moves (by rwa [State.findEntry_replyJoin]) roamOut _)
    · exact s.replyJoin_moves ..
  · rename_i absent
    split_ifs with weak full
    · exact s.replyJoin_moves ..
    · exact s.replyJoin_moves ..
    · exact State.admitClient_moves absent running (not_le.mp full)

theorem State.handleLeave_moves (s : State) (c : ClientId) : Moves s (s.handleLeave c) := by
  unfold State.handleLeave
  split
  · split
    · exact s.dropEntry_moves c
    · exact .refl
  · exact .refl

end Sys2Proof.Machine
end

section
/-! SUPPORT. Every command as a run of changes. -/

namespace Sys2Proof.Machine

/-! ## The boundary (R144, R149, R153, R81) -/

theorem PeerEntry.aged_keeps {now period : Time} {p q : PeerEntry} (h : p.aged now period = some q) :
    q.station = p.station ∧ (p.ordered → q.ordered) := by
  unfold PeerEntry.aged at h
  split_ifs at h <;> cases h
  · exact ⟨rfl, fun h => h⟩
  · exact ⟨rfl, fun h => h⟩

theorem State.agePeers_moves (s : State) : Moves s s.agePeers :=
  .single (.peer (.edit _ fun _ _ h => PeerEntry.aged_keeps h))

/-- A change of an announcement buffer that leaves its queued flag. -/
theorem State.updateBuffer_moves (s : State) (k : AnnounceKind) (f : Buffer → Buffer)
    (queued : (f (s.anu.buffer k)).queued = (s.anu.buffer k).queued) : Moves s (s.updateBuffer k f) :=
  s.flags_moves _ (by simp) (by simp) (by simp) (Announcement.setBuffer_queued _ k _ queued)

theorem State.announcement_moves {s : State} {k : AnnounceKind} (free : (s.anu.buffer k).queued = false) :
    Moves s (s.handOver (announcementFrame k)).1 :=
  s.handOver_moves _ fun j h => by
    cases h
    exact free

theorem State.modeTurn_moves (s : State) (k : AnnounceKind) (m : AnnounceMode) : Moves s (s.modeTurn k m) := by
  unfold State.modeTurn
  split
  · exact .refl
  · unfold State.periodicTurn
    split
    · exact .refl
    · rename_i free
      exact State.announcement_moves (by simpa using free)
  · unfold State.bestEffortTurn
    split_ifs with queued
    · exact s.updateBuffer_moves k _ rfl
    · exact (State.announcement_moves (by simpa using queued)).trans (State.updateBuffer_moves _ k _ rfl)
    · exact s.updateBuffer_moves k _ rfl

theorem State.refreshContent_moves {s : State} (k : AnnounceKind) (due : s.anu.nextBoundary ≠ none) :
    Moves s (s.refreshContent k) := by
  cases k with
  | harvest => exact .single (.counter (.snapshot due))
  | _ => exact .refl

theorem State.onceTurn_moves {s : State} (k : AnnounceKind) (due : s.anu.nextBoundary ≠ none) : Moves s (s.onceTurn k) := by
  have updated (u : State) (due : u.anu.nextBoundary ≠ none) : Moves u ((u.refreshContent k).disarm k) :=
    (State.refreshContent_moves k due).trans (State.updateBuffer_moves _ k _ rfl)
  unfold State.onceTurn
  split_ifs with armed queued attempting
  · exact .refl
  · exact updated s due
  · have handed := State.announcement_moves (s := s) (k := k) (by simpa using queued)
    dsimp only
    split
    · exact handed.trans (updated _ (by rwa [handed.keeps.2.2.2]))
    · exact handed
  · exact .refl

theorem State.sendNotice_moves (s : State) (n : Notice) : Moves s (s.sendNotice n) := by
  have handed : Moves s (s.handOver n.frame).1 := s.handOver_moves _ fun _ h => by cases h
  unfold State.sendNotice
  dsimp only
  split
  · exact handed.tail (.peer (.sent n))
  · exact handed

theorem State.announce_moves {s : State} (due : s.anu.nextBoundary ≠ none) : Moves s s.announce := by
  unfold State.announce
  split
  · exact .refl
  dsimp only
  have modes := (s.modeTurn_moves .presence s.par.presenceMode).trans
    (State.modeTurn_moves (s.modeTurn .presence s.par.presenceMode) .load (s.modeTurn .presence s.par.presenceMode).par.loadMode)
  have once := modes.trans (State.onceTurn_moves .streamWant (by rwa [Moves.keeps modes |>.2.2.2]))
  exact (once.trans (State.onceTurn_moves .harvest (by rwa [Moves.keeps once |>.2.2.2]))).trans (Moves.fold State.sendNotice_moves _ _)

theorem State.awayCheck_moves (s : State) : Moves s s.awayCheck :=
  s.seat_moves (.seats _ (SeatRecord.tame_leaveSeat _ _))

theorem Moves.changes {s t : State} (m : Moves s t) : Changes s t := by
  induction m with
  | refl => exact .refl
  | tail _ m ih => exact ih.tail (.move m)

theorem State.boundary_changes {s : State} (t : Time) (due : s.anu.nextBoundary ≠ none) : Changes s (s.boundary t) := by
  have turns : Moves (s.setAnu { s.anu with nextBoundary := some (t + s.period) })
      (s.setAnu { s.anu with nextBoundary := some (t + s.period) }).agePeers.announce.awayCheck :=
    ((State.agePeers_moves _).trans (State.announce_moves (by simp [State.agePeers]))).trans (State.awayCheck_moves _)
  exact ((Relation.ReflTransGen.single (.boundary _ due)).trans turns.changes).tail .listened

/-! ## The row bus -/

/-- The line, or the transmitter with its frame in hand, changes. -/
theorem State.line_moves (s : State) (b : RowBus) (hand : b.tx.hand = s.rbc.tx.hand)
    (attempts : b.tx.attempts < lastAttempt ∨ b.tx.attempts = s.rbc.tx.attempts) (urgent : b.txUrgent = s.rbc.txUrgent)
    (normal : b.txNormal = s.rbc.txNormal) (received : b.rxQueue = s.rbc.rxQueue) : Moves s (s.setRbc b) :=
  .single (.bus (.line b hand attempts urgent normal received))

theorem State.startSending_moves (s : State) : Moves s s.startSending := by
  unfold State.startSending
  split
  · rename_i f n since h
    exact s.line_moves _ (by rw [h]; rfl) (.inr (by rw [h]; rfl)) rfl rfl rfl
  · exact .refl

/-- The report of a frame lost in its sixth collision, and the next frame's taking, in either order. -/
theorem State.loseHand_moves {s : State} {f : TxFrame} {n : Nat} {wire : List Byte} (attempt : s.rbc.tx = .sending f n wire) :
    Moves s (s.reportLoss f).nextFrame := by
  rw [State.reportLoss_eq]
  obtain message | announcement := State.clearLost_or_reportRefusal f
  · rw [message]
    have lost := State.reportRefusal_moves s f
    have next : Moves (s.reportRefusal f) ((s.reportRefusal f).clearLost f).nextFrame :=
      .single (.bus (.lose f n wire (by simpa using attempt)))
    rw [message] at next
    exact lost.trans next
  · rw [announcement]
    exact .single (.bus (.lose f n wire attempt))

theorem State.refreshPeer_moves (s : State) (a : Station) : Moves s (s.refreshPeer a) := by
  have edited : Moves s (s.setAnu
      { s.anu with
        peers := s.anu.peers.filterMap
          (fun p => some (if p.station == a then { p with status := .live, lastFrame := s.now } else p)) }) := by
    refine .single (.peer (.edit _ fun p q h => ?_))
    obtain rfl := Option.some.inj h
    split
    · exact ⟨rfl, fun h => h⟩
    · exact ⟨rfl, fun h => h⟩
  rwa [List.filterMap_eq_map'] at edited

theorem State.storeFrame_moves {s : State} {f : RxFrame} (foreign : s.isOwn f.source = false) : Moves s (s.storeFrame f) := by
  unfold State.storeFrame
  split
  · rename_i place
    have counted := (s.count_moves (rxLengthCounter (lengthBucket f.payload.length))).trans
      (State.refreshPeer_moves _ f.source)
    dsimp only
    split
    · refine counted.tail (.bus (.store f ?_ ?_))
      · simpa using place
      · simpa [State.isOwn] using foreign
    · exact counted
  · exact s.count_moves _

theorem State.addressClash_moves (s : State) : Moves s s.addressClash := by
  unfold State.addressClash
  refine (s.count_moves .rxBad).trans ?_
  dsimp only
  split
  · exact .refl
  · exact (State.line_moves _ { (s.count .rxBad).rbc with clashNoted := true } rfl (.inr rfl) rfl rfl rfl).trans
      (State.armNotice_moves _ _ _)

theorem State.receive_moves (s : State) (bytes : List Byte) : Moves s (s.receive bytes) := by
  unfold State.receive
  split
  · exact s.count_moves _
  · exact s.count_moves _
  · split_ifs with own addressed
    · exact s.addressClash_moves
    · exact State.storeFrame_moves (by simpa using own)
    · exact .refl

/-! ## Taking frames and records -/

theorem State.takeUplink_moves {s t : State} {p : UplinkBody → Bool} {r : UplinkRecord} (h : s.takeUplink p = some (r, t)) :
    Moves s t := by
  obtain ⟨-, -, rfl⟩ := State.takeUplink_inv h
  exact .single (.radio .taken)

theorem State.takeFrame_moves {s t : State} {b : Block} {p : RxFrame → Bool} {f : RxFrame}
    (h : s.takeFrame b p = some (f, t)) : Moves s t := by
  obtain ⟨-, -, rfl⟩ := State.takeFrame_inv h
  exact .single (.bus (.release b))

theorem State.sampleAndTest_moves (s : State) (r : UplinkRecord) : Moves s ((s.sampleOf r).strayTest r) :=
  (s.sample_moves _ _ _).trans (State.strayTest_moves _ r)

theorem State.associatedEntry_some {s : State} {c : ClientId} {e : ClientEntry} (h : s.associatedEntry c = some e) :
    s.findEntry c = some e ∧ e.state = .associated := by
  simpa [State.associatedEntry, Option.filter_eq_some_iff] using h

/-- A payload is read as a message of its frame's kind (R202). -/
theorem parseMessage_kind {k : FrameKind} {p : List Byte} {m : Message} (h : parseMessage k p = some m) : m.kind = k := by
  cases k with
  | roamClaim | roamReturn | clientMoved | tokenForward | seatReleased | load | harvest | segment | harvestRequest =>
    cases h
    rfl
  | roamGrant | roamDeny | tokenResult | authorityQuery | authorityAnswer | presence | notice | matchState | blockReset =>
    obtain ⟨_, -, rfl⟩ := Option.map_eq_some_iff.mp h
    rfl
  | streamWant =>
    rw [parseMessage, Option.ite_none_right_eq_some] at h
    cases h.2
    rfl
  | contextReply =>
    simp only [parseMessage] at h
    split_ifs at h
    · cases h
      rfl
    · obtain ⟨_, -, rfl⟩ := Option.map_eq_some_iff.mp h
      rfl
  | streamAnnounce =>
    simp only [parseMessage] at h
    split at h
    · cases h
      rfl
    · cases h

theorem RxFrame.roamGrant_ranged {f : RxFrame} {c : ClientId} {x : Context} (h : f.message = some (.roamGrant c x)) :
    x.Ranged := by
  have kind := parseMessage_kind h
  rw [RxFrame.message, ← kind] at h
  obtain ⟨y, hy, same⟩ := Option.map_eq_some_iff.mp h
  cases same
  exact parseContext_ranged hy

theorem RxFrame.contextReply_ranged {f : RxFrame} {c : ClientId} {x : Option Context}
    (h : f.message = some (.contextReply c x)) : ∀ y, x = some y → y.Ranged := by
  rintro y rfl
  have kind := parseMessage_kind h
  rw [RxFrame.message, ← kind] at h
  simp only [Message.kind, parseMessage] at h
  split_ifs at h
  · cases h
  · obtain ⟨z, hz, same⟩ := Option.map_eq_some_iff.mp h
    cases same
    exact parseContext_ranged hz

theorem State.roamFrameOk_started {s : State} {f : RxFrame} (h : s.roamFrameOk f = true) : s.sl.nodeState ≠ .starting := by
  simp only [State.roamFrameOk, Bool.and_eq_true, Bool.not_eq_true', State.isStarting, beq_eq_false_iff_ne] at h
  exact h.1.1

theorem State.not_isStarting {s : State} (h : ¬ s.isStarting = true) : s.sl.nodeState ≠ .starting :=
  fun starting => h (s.isStarting_iff.mpr starting)

/-! ## PRESENCE and LOAD -/

theorem State.findPeer_station {s : State} {a : Station} {p : PeerEntry} (h : s.findPeer a = some p) : p.station = a := by
  simpa using List.find?_some h

theorem presenceEntry_station {s : State} {a : Station} (cls : PeerClass) (block : Option SeatBlock) (t : Time) :
    (presenceEntry (s.findPeer a) a cls block t).station = a := by
  unfold presenceEntry
  split
  · rfl
  · rename_i p h
    exact State.findPeer_station (p := p) h

/-- What a PRESENCE writes is in order, given the entry that it renews (R141). -/
theorem presenceEntry_ordered {old : Option PeerEntry} {a : Station} {cls : PeerClass} (block : Option SeatBlock)
    (defaulted : Bool) (t : Time) (source : presenceSourceOk a cls = true) (station : ∀ p, old = some p → p.station = a)
    (ordered : ∀ p, old = some p → p.ordered) : (presenceEntry old a cls (presenceBlock cls block defaulted) t).ordered := by
  have places : 1 ≤ a ∧ a ≤ 30 ∧ (cls = .gateway ↔ a = 30) := by
    cases cls with
    | node =>
      simp only [presenceSourceOk, isNodeStation, decide_eq_true_eq] at source
      simp only [reduceCtorEq, false_iff]
      exact ⟨source.1, source.2.trans (by decide), (source.2.trans_lt (by decide)).ne⟩
    | gateway => simp only [presenceSourceOk, beq_iff_eq, gateway] at source; simp [source]
  have range : ∀ b, presenceBlock cls block defaulted = some b → cls = .node ∧ 1 ≤ b.first ∧ b.first ≤ b.last ∧ b.last ≤ 999 := by
    intro b hb
    unfold presenceBlock at hb
    split at hb
    · rename_i node
      exact ⟨node.1, by simpa using (Option.filter_eq_some_iff.mp hb).2⟩
    · cases hb
  unfold presenceEntry
  split
  · exact ⟨places.1, places.2.1, places.2.2, range, nofun⟩
  · rename_i p
    have same := station p rfl
    obtain ⟨-, -, -, -, load⟩ := ordered p rfl
    exact ⟨same ▸ places.1, same ▸ places.2.1, same ▸ places.2.2, range, load⟩

theorem State.takePresence_moves {s : State} {f : RxFrame} (heard : f ∈ s.rbc.rxQueue) (cls : PeerClass)
    (block : Option SeatBlock) (defaulted : Bool) : Moves s (s.takePresence f cls block defaulted) := by
  unfold State.takePresence
  split
  · rename_i source
    have station := presenceEntry_station (s := s) (a := f.source) cls (presenceBlock cls block defaulted) f.storedAt
    have ordered (h : ∀ q, s.findPeer f.source = some q → q.ordered) :=
      presenceEntry_ordered block defaulted f.storedAt source (fun p hp => State.findPeer_station hp) h
    dsimp only
    generalize hp : presenceEntry (s.findPeer f.source) f.source cls (presenceBlock cls block defaulted) f.storedAt = p
      at station ordered
    split
    · refine .trans (.single (.peer (.put { p with overlap := true } ⟨f, heard, station.symm⟩ fun h => ordered ?_)))
        (State.armNotice_moves _ _ _)
      rwa [station] at h
    · refine .single (.peer (.put _ ⟨f, heard, station.symm⟩ fun h => ordered ?_))
      rwa [station] at h
  · exact .refl

theorem State.takeLoad_moves (s : State) (a : Station) (l : PeerLoad) : Moves s (s.takeLoad a l) := by
  unfold State.takeLoad
  split
  · rename_i ok
    have edited : Moves s (s.setAnu
        { s.anu with
          peers := s.anu.peers.filterMap (fun p => some (if p.station == a then { p with load := some l } else p)) }) := by
      refine .single (.peer (.edit _ fun p q h => ?_))
      obtain rfl := Option.some.inj h
      split
      · refine ⟨rfl, fun ⟨h1, h2, h3, h4, _⟩ => ⟨h1, h2, h3, h4, fun l' hl' => ?_⟩⟩
        cases hl'
        simpa [PeerLoad.ok] using ok
      · exact ⟨rfl, fun h => h⟩
    rwa [List.filterMap_eq_map'] at edited
  · exact .refl

end Sys2Proof.Machine
end

section
/-! SUPPORT. Every command as a run of changes, and the principle that an invariant kept by every change is kept by every step. -/

namespace Sys2Proof.Machine

/-- A command that takes `dt` ends in a next state, reached by changes alone, at its time and with the waiting commands as they were. -/
def State.Ends (s : State) (dt : Time) (o : Host.Outcome State Fault Refusal) : Prop :=
  ∃ t, o = .next t ∧ Changes (s.elapse dt) t ∧ t.now = s.now + dt ∧ t.pending = s.pending

theorem State.Ends.of_moves {o : Host.Outcome State Fault Refusal} {s : State} {dt : Time}
    (h : ∃ t, o = .next t ∧ Moves (s.elapse dt) t) : s.Ends dt o := by
  obtain ⟨t, ht, moves⟩ := h
  exact ⟨t, ht, moves.changes, moves.keeps.2.1, moves.keeps.2.2.1⟩

theorem State.Ends.idle (s : State) (dt : Time) : s.Ends dt (.next (s.elapse dt)) := ⟨_, rfl, .refl, rfl, rfl⟩

/-! ## Start-up -/

theorem execPowerOnReset_ends (dt : Time) (strap : BitVec 5) (s : State) : s.Ends dt (execPowerOnReset dt strap s) :=
  ⟨_, rfl, .single (.reset _ _ _), by simp, by simp⟩

theorem execResetPin_ends (dt : Time) (strap : BitVec 5) (s : State) : s.Ends dt (execResetPin dt strap s) :=
  ⟨_, rfl, .single (.reset _ _ _), by simp, by simp⟩

theorem State.reading_starting {s : State} {t : Time} (h : s.reading = some t) :
    s.sl.nodeState = .starting ∧ s.sl.readStarted = some t := by
  unfold State.reading at h
  split at h
  · rename_i starting
    exact ⟨s.isStarting_iff.mp starting, h⟩
  · cases h

/-- The first PRESENCE is accepted, or lost at a full queue (R197). -/
theorem State.firstPresence_changes {s : State} {p : Option Params} (starting : s.sl.nodeState = .starting)
    (configured : Configured p) : Changes s ((s.configured p).handOver (announcementFrame .presence)).1 := by
  have speaks : ¬ ((s.configured p).sl.nodeState = .silent ∨ (s.configured p).sl.nodeState = .starting) := by
    rintro (h | h) <;> cases h
  obtain ⟨h, -⟩ | ⟨room, h⟩ | ⟨front, old, -, urgent, -, -⟩ | ⟨full, -, h⟩ :=
    (s.configured p).handOver_cases (announcementFrame .presence)
  · exact absurd h speaks
  · rw [h]
    exact .single (.listen p starting configured room)
  · cases urgent
  · rw [h]
    exact .head (.crowded p starting configured full) (Moves.changes (State.count_moves _ _))

theorem State.enterListening_changes {s : State} {p : Option Params} (starting : s.sl.nodeState = .starting)
    (configured : Configured p) : Changes s (s.enterListening p) := by
  refine (State.firstPresence_changes starting configured).trans (Moves.changes ?_)
  change Moves _ (if p.isNone then State.armNotice _ .configDefaulted 0 else _)
  split
  · exact State.armNotice_moves _ _ _
  · exact .refl

theorem State.enterListening_ends {s : State} {dt : Time} {p : Option Params} (starting : s.sl.nodeState = .starting)
    (configured : Configured p) : s.Ends dt (.next ((s.elapse dt).enterListening p)) :=
  ⟨_, rfl, State.enterListening_changes starting configured, by simp, by simp⟩

theorem execStationRecordReadDone_ends (dt : Time) (record : List Byte) (s : State) :
    s.Ends dt (execStationRecordReadDone dt record s) := by
  unfold execStationRecordReadDone
  dsimp only
  split
  · rename_i reading
    refine State.enterListening_ends (State.reading_starting reading).1 ?_
    split
    · exact .inr ⟨record, rfl⟩
    · exact .inl rfl
  · exact .idle s dt

theorem execStationRecordReadTimeout_ends (dt : Time) (s : State) : s.Ends dt (execStationRecordReadTimeout dt s) := by
  unfold execStationRecordReadTimeout
  dsimp only
  split
  · rename_i reading
    split
    · exact State.enterListening_ends (State.reading_starting reading).1 (.inl rfl)
    · exact .idle s dt
  · exact .idle s dt

theorem execAnnouncementPeriodBoundary_ends (dt : Time) (s : State) : s.Ends dt (execAnnouncementPeriodBoundary dt s) := by
  unfold execAnnouncementPeriodBoundary
  dsimp only
  split
  · rename_i due
    split
    · exact ⟨_, rfl, State.boundary_changes _ (by rw [due]; exact nofun), by simp, by simp⟩
    · exact .idle s dt
  · exact .idle s dt

/-! ## Uplink records -/

theorem execUplinkRecordArrival_moves (dt : Time) (record : List Byte) (s : State) :
    ∃ t, execUplinkRecordArrival dt record s = .next t ∧ Moves (s.elapse dt) t := by
  refine ⟨_, rfl, ?_⟩
  dsimp only
  split
  · exact .refl
  · split
    · rename_i place
      exact .single (.radio (.arrival _ place))
    · exact State.count_moves _ _

theorem execHeard_moves (dt : Time) (s : State) : ∃ t, execHeard dt s = .next t ∧ Moves (s.elapse dt) t := by
  refine ⟨_, rfl, ?_⟩
  split
  · exact .refl
  · rename_i taken
    refine (State.takeUplink_moves taken).trans ?_
    split
    · exact .refl
    · exact State.sampleAndTest_moves _ _

theorem execJoinRequest_moves (dt : Time) (s : State) : ∃ t, execJoinRequest dt s = .next t ∧ Moves (s.elapse dt) t := by
  refine ⟨_, rfl, ?_⟩
  split
  · exact .refl
  · rename_i taken
    refine (State.takeUplink_moves taken).trans ?_
    split
    · exact .refl
    · exact (State.sample_moves _ _ _ _).trans (State.handleJoin_moves _ _)

theorem execLeave_moves (dt : Time) (s : State) : ∃ t, execLeave dt s = .next t ∧ Moves (s.elapse dt) t := by
  refine ⟨_, rfl, ?_⟩
  split
  · exact .refl
  · rename_i taken
    refine (State.takeUplink_moves taken).trans ?_
    split
    · exact .refl
    · exact (State.sampleAndTest_moves _ _).trans (State.handleLeave_moves _ _)

theorem execCapsPiece_moves (dt : Time) (s : State) : ∃ t, execCapsPiece dt s = .next t ∧ Moves (s.elapse dt) t := by
  refine ⟨_, rfl, ?_⟩
  dsimp only
  split
  · exact .refl
  · rename_i r t taken
    refine (State.takeUplink_moves taken).trans ?_
    split
    · exact .refl
    refine (State.sampleAndTest_moves _ r).trans ?_
    split
    · rename_i e _ entry
      obtain ⟨found, associated⟩ := State.associatedEntry_some entry
      refine State.takePiece_moves _ _ _ (State.countedEntry_of_found (e := e) ?_ (EntryState.counted_of_associated associated))
      rwa [State.findEntry_id found]
    · exact .refl

theorem execSubscribeOn_moves (dt : Time) (s : State) : ∃ t, execSubscribeOn dt s = .next t ∧ Moves (s.elapse dt) t := by
  refine ⟨_, rfl, ?_⟩
  dsimp only
  split
  · exact .refl
  · rename_i r t taken
    refine (State.takeUplink_moves taken).trans ?_
    split
    · exact .refl
    rename_i started
    have sampled := State.sampleAndTest_moves t r
    refine sampled.trans ?_
    split
    · rename_i entry
      obtain ⟨found, associated⟩ := State.associatedEntry_some entry
      refine State.applySubscription_moves _ ?_
        (State.countedEntry_of_found found (EntryState.counted_of_associated associated))
      rw [sampled.keeps.1]
      exact State.not_isStarting started
    · exact .refl

theorem execSubscribeOff_moves (dt : Time) (s : State) : ∃ t, execSubscribeOff dt s = .next t ∧ Moves (s.elapse dt) t := by
  refine ⟨_, rfl, ?_⟩
  dsimp only
  split
  · exact .refl
  · rename_i r t taken
    refine (State.takeUplink_moves taken).trans ?_
    split
    · exact .refl
    refine (State.sampleAndTest_moves _ r).trans ?_
    split
    · rename_i e _ entry
      obtain ⟨found, associated⟩ := State.associatedEntry_some entry
      refine State.unsubscribe_moves _ ?_ (EntryState.counted_of_associated associated)
      rwa [State.findEntry_id found]
    · exact .refl

theorem execToken_moves (dt : Time) (s : State) : ∃ t, execToken dt s = .next t ∧ Moves (s.elapse dt) t := by
  refine ⟨_, rfl, ?_⟩
  dsimp only
  split
  · exact .refl
  · rename_i r t taken
    refine (State.takeUplink_moves taken).trans ?_
    split
    · exact .refl
    refine (State.sampleAndTest_moves _ r).trans ?_
    split
    · exact State.takeToken_moves _ _ _
    · exact .refl

/-! ## Timers of entries and sightings -/

theorem execInactivityExpiry_moves (dt : Time) (c : ClientId) (s : State) :
    ∃ t, execInactivityExpiry dt c s = .next t ∧ Moves (s.elapse dt) t :=
  ⟨_, rfl, State.removeIfInactive_moves _ c⟩

theorem execSightingExpiry_moves (dt : Time) (c : ClientId) (s : State) :
    ∃ t, execSightingExpiry dt c s = .next t ∧ Moves (s.elapse dt) t := by
  refine ⟨_, rfl, ?_⟩
  split
  · split
    · exact .single (.client (.unsight c))
    · exact .refl
  · exact .refl

theorem execBackoffExpiry_moves (dt : Time) (c : ClientId) (s : State) :
    ∃ t, execBackoffExpiry dt c s = .next t ∧ Moves (s.elapse dt) t := by
  refine ⟨_, rfl, ?_⟩
  split
  · split
    · split
      · exact .single (.client (.resight c (fun g => { g with status := .seen }) fun g => ⟨rfl, fun h => h⟩))
      · exact .refl
    · exact .refl
  · exact .refl

theorem execSeatReleased_moves (dt : Time) (s : State) : ∃ t, execSeatReleased dt s = .next t ∧ Moves (s.elapse dt) t := by
  refine ⟨_, rfl, ?_⟩
  split
  · exact .refl
  · rename_i taken
    refine (State.takeFrame_moves taken).trans ?_
    split
    · split
      · exact .refl
      · exact State.releaseBinding_moves _ _ _ _
    · exact .refl

/-! ## Roam exchanges -/

theorem execRoamClaim_moves (dt : Time) (s : State) : ∃ t, execRoamClaim dt s = .next t ∧ Moves (s.elapse dt) t := by
  refine ⟨_, rfl, ?_⟩
  split
  · exact .refl
  · rename_i taken
    refine (State.takeFrame_moves taken).trans ?_
    split
    · split
      · exact State.decideClaim_moves _ _ _ _
      · exact .refl
    · exact .refl

theorem execRoamGrant_moves (dt : Time) (s : State) : ∃ t, execRoamGrant dt s = .next t ∧ Moves (s.elapse dt) t := by
  refine ⟨_, rfl, ?_⟩
  split
  · exact .refl
  · rename_i taken
    refine (State.takeFrame_moves taken).trans ?_
    split
    · rename_i message
      split
      · rename_i ok
        exact State.decideGrant_moves _ _ (RxFrame.roamGrant_ranged message) (State.roamFrameOk_started ok)
      · exact .refl
    · exact .refl

theorem execRoamDeny_moves (dt : Time) (s : State) : ∃ t, execRoamDeny dt s = .next t ∧ Moves (s.elapse dt) t := by
  refine ⟨_, rfl, ?_⟩
  split
  · exact .refl
  · rename_i taken
    refine (State.takeFrame_moves taken).trans ?_
    split
    · split
      · exact State.takeDenial_moves _ _ _
      · exact .refl
    · exact .refl

theorem execRoamReturn_moves (dt : Time) (s : State) : ∃ t, execRoamReturn dt s = .next t ∧ Moves (s.elapse dt) t := by
  refine ⟨_, rfl, ?_⟩
  split
  · exact .refl
  · rename_i taken
    refine (State.takeFrame_moves taken).trans ?_
    split
    · split
      · exact State.takeReturn_moves _ _ _
      · exact .refl
    · exact .refl

theorem execClientMoved_moves (dt : Time) (s : State) : ∃ t, execClientMoved dt s = .next t ∧ Moves (s.elapse dt) t := by
  refine ⟨_, rfl, ?_⟩
  split
  · exact .refl
  · rename_i taken
    refine (State.takeFrame_moves taken).trans ?_
    split
    · split
      · exact State.takeMoved_moves _ _ _ _
      · exact .refl
    · exact .refl

theorem execContextReply_moves (dt : Time) (s : State) : ∃ t, execContextReply dt s = .next t ∧ Moves (s.elapse dt) t := by
  refine ⟨_, rfl, ?_⟩
  split
  · exact .refl
  · rename_i taken
    refine (State.takeFrame_moves taken).trans ?_
    split
    · rename_i message
      split
      · rename_i ok
        exact State.takeContext_moves _ _ (RxFrame.contextReply_ranged message) (State.roamFrameOk_started ok)
      · exact .refl
    · exact .refl

theorem execClaimTimerExpiry_moves (dt : Time) (c : ClientId) (s : State) :
    ∃ t, execClaimTimerExpiry dt c s = .next t ∧ Moves (s.elapse dt) t := by
  refine ⟨_, rfl, ?_⟩
  split
  · rename_i found
    split
    · split
      · exact State.endReservation_moves found _
      · exact .refl
    · exact .refl
  · exact .refl

theorem execRoamInTimerExpiry_moves (dt : Time) (c : ClientId) (s : State) :
    ∃ t, execRoamInTimerExpiry dt c s = .next t ∧ Moves (s.elapse dt) t := by
  refine ⟨_, rfl, ?_⟩
  split
  · split
    · split
      · exact State.removeEntry_moves _ c
      · exact .refl
    · exact .refl
  · exact .refl

theorem execGrantTimerExpiry_moves (dt : Time) (c : ClientId) (s : State) :
    ∃ t, execGrantTimerExpiry dt c s = .next t ∧ Moves (s.elapse dt) t := by
  refine ⟨_, rfl, ?_⟩
  split
  · rename_i found
    split
    · rename_i roamOut
      split
      · exact State.returnEntry_moves found roamOut none
      · exact .refl
    · exact .refl
  · exact .refl

theorem execHoldDownExpiry_moves (dt : Time) (c : ClientId) (s : State) :
    ∃ t, execHoldDownExpiry dt c s = .next t ∧ Moves (s.elapse dt) t := by
  refine ⟨_, rfl, ?_⟩
  split
  · split
    · exact State.updateEntry_moves _ c fun _ => .of_same rfl rfl rfl (fun _ => rfl) (fun w => w) fun h => h
    · exact .refl
  · exact .refl

theorem execContextWaitExpiry_moves (dt : Time) (c : ClientId) (s : State) :
    ∃ t, execContextWaitExpiry dt c s = .next t ∧ Moves (s.elapse dt) t := by
  refine ⟨_, rfl, ?_⟩
  split
  · split
    · exact State.endContextWait_moves _ c
    · exact .refl
  · exact .refl

theorem execBlockResetRoam_moves (dt : Time) (s : State) : ∃ t, execBlockResetRoam dt s = .next t ∧ Moves (s.elapse dt) t := by
  refine ⟨_, rfl, ?_⟩
  split
  · exact .refl
  · rename_i taken
    refine (State.takeFrame_moves taken).trans ?_
    split
    · exact .refl
    · refine .trans (.single (.client .roamReset)) (.single (.client (.edit ClientEntry.roamCleared fun e he => ?_)))
      have counted : e.state.counted = true := (List.mem_filter.mp he).2
      refine ⟨rfl, fun i => ?_, fun h => h, fun h => h, nofun, nofun, fun _ h => absurd rfl h⟩
      change (EntryState.counted .associated && _) = (e.state.counted && _)
      rw [counted]
      rfl

/-! ## Tokens and seats -/

theorem execTokenForward_moves (dt : Time) (s : State) : ∃ t, execTokenForward dt s = .next t ∧ Moves (s.elapse dt) t := by
  refine ⟨_, rfl, ?_⟩
  dsimp only
  split
  · exact .refl
  · rename_i taken
    refine (State.takeFrame_moves taken).trans ?_
    split
    · exact .refl
    · split
      · exact (State.answerForward_moves _ _ _ _).trans (State.send_moves _ _ _)
      · exact .refl

theorem execTokenResult_moves (dt : Time) (s : State) : ∃ t, execTokenResult dt s = .next t ∧ Moves (s.elapse dt) t := by
  refine ⟨_, rfl, ?_⟩
  split
  · exact .refl
  · rename_i taken
    refine (State.takeFrame_moves taken).trans ?_
    split
    · exact .refl
    · split
      · exact State.takeResult_moves _ _ _ _ _ _
      · exact .refl

theorem execPendingTokenTimerExpiry_moves (dt : Time) (c : ClientId) (n : Serial) (s : State) :
    ∃ t, execPendingTokenTimerExpiry dt c n s = .next t ∧ Moves (s.elapse dt) t := by
  refine ⟨_, rfl, ?_⟩
  split
  · split
    · exact State.settleTryAgain_moves _ _
    · exact .refl
  · exact .refl

theorem execSeatHoldExpiry_moves (dt : Time) (n : Seat) (s : State) :
    ∃ t, execSeatHoldExpiry dt n s = .next t ∧ Moves (s.elapse dt) t :=
  ⟨_, rfl, State.expireHold_moves _ n⟩

theorem execAuthorityTimerExpiry_moves (dt : Time) (n : Seat) (s : State) :
    ∃ t, execAuthorityTimerExpiry dt n s = .next t ∧ Moves (s.elapse dt) t := by
  refine ⟨_, rfl, ?_⟩
  dsimp only
  split
  · exact .refl
  rename_i a found
  split
  · exact .refl
  split
  · refine .trans (State.seat_moves (.requery n a
      { a with attempts := 2, expiry := (s.elapse dt).now + seconds authoritySeconds } found rfl rfl)) ?_
    split
    · exact State.send_moves _ _ _
    · exact .refl
  · exact (State.applyKeep_moves (by rwa [State.findAuthority_seat found])).trans (State.armNotice_moves _ _ _)

theorem execAuthorityAnswerKeep_moves (dt : Time) (s : State) : ∃ t, execAuthorityAnswerKeep dt s = .next t ∧ Moves (s.elapse dt) t := by
  refine ⟨_, rfl, ?_⟩
  split
  · rename_i taken
    exact (State.takeFrame_moves taken).trans (State.answer_moves _ _ _ fun _ => State.applyKeep_moves)
  · exact .refl

theorem execAuthorityAnswerReplace_moves (dt : Time) (s : State) :
    ∃ t, execAuthorityAnswerReplace dt s = .next t ∧ Moves (s.elapse dt) t := by
  refine ⟨_, rfl, ?_⟩
  split
  · rename_i taken
    exact (State.takeFrame_moves taken).trans (State.answer_moves _ _ _ fun _ => State.applyReplace_moves)
  · exact .refl

theorem execAuthorityAnswerBlock_moves (dt : Time) (s : State) :
    ∃ t, execAuthorityAnswerBlock dt s = .next t ∧ Moves (s.elapse dt) t := by
  refine ⟨_, rfl, ?_⟩
  split
  · rename_i taken
    exact (State.takeFrame_moves taken).trans (State.answer_moves _ _ _ fun _ => State.applyBlock_moves)
  · exact .refl

theorem execAuthorityAnswerUnblock_moves (dt : Time) (s : State) :
    ∃ t, execAuthorityAnswerUnblock dt s = .next t ∧ Moves (s.elapse dt) t := by
  refine ⟨_, rfl, ?_⟩
  split
  · rename_i taken
    refine (State.takeFrame_moves taken).trans ?_
    split
    · exact State.seat_moves (.seatTame _ SeatRecord.tame_unblocked)
    · exact .refl
  · exact .refl

theorem execMatchStateOpen_moves (dt : Time) (s : State) : ∃ t, execMatchStateOpen dt s = .next t ∧ Moves (s.elapse dt) t := by
  refine ⟨_, rfl, ?_⟩
  dsimp only
  split
  · exact .refl
  · rename_i taken
    refine (State.takeFrame_moves taken).trans ?_
    split
    · exact .refl
    · exact State.seat_moves (.matchState .opened)

theorem execMatchStateClosed_moves (dt : Time) (s : State) : ∃ t, execMatchStateClosed dt s = .next t ∧ Moves (s.elapse dt) t := by
  refine ⟨_, rfl, ?_⟩
  split
  · exact .refl
  · rename_i taken
    refine (State.takeFrame_moves taken).trans ?_
    split
    · exact .refl
    · exact State.closeMatch_moves _

theorem execBlockResetTicket_moves (dt : Time) (s : State) : ∃ t, execBlockResetTicket dt s = .next t ∧ Moves (s.elapse dt) t := by
  refine ⟨_, rfl, ?_⟩
  split
  · exact .refl
  · rename_i taken
    refine (State.takeFrame_moves taken).trans ?_
    split
    · exact .refl
    · exact (State.clearSeats_moves _).trans (State.answerPending_moves _ _)

/-! ## Streams -/

theorem execStreamAnnounceLive_moves (dt : Time) (s : State) : ∃ t, execStreamAnnounceLive dt s = .next t ∧ Moves (s.elapse dt) t := by
  refine ⟨_, rfl, ?_⟩
  split
  · exact .refl
  · rename_i taken
    refine (State.takeFrame_moves taken).trans ?_
    split
    · exact State.announceLive_moves _ _ _ _
    · exact .refl

theorem execStreamAnnounceEnded_moves (dt : Time) (s : State) : ∃ t, execStreamAnnounceEnded dt s = .next t ∧ Moves (s.elapse dt) t := by
  refine ⟨_, rfl, ?_⟩
  split
  · exact .refl
  · rename_i taken
    refine (State.takeFrame_moves taken).trans ?_
    split
    · exact State.announceEnded_moves _ _
    · exact .refl

theorem execSegment_moves (dt : Time) (s : State) : ∃ t, execSegment dt s = .next t ∧ Moves (s.elapse dt) t := by
  refine ⟨_, rfl, ?_⟩
  split
  · exact .refl
  · rename_i taken
    refine (State.takeFrame_moves taken).trans ?_
    split
    · split
      · exact .refl
      · exact State.takeSegment_moves _ _ _ _ _ _
    · exact .refl

theorem execSlotStart_moves (dt : Time) (s : State) : ∃ t, execSlotStart dt s = .next t ∧ Moves (s.elapse dt) t := by
  refine ⟨_, rfl, ?_⟩
  split
  · rename_i due
    simp only [State.slotDue, Bool.and_eq_true, decide_eq_true_eq] at due
    obtain ⟨v, starts, rest⟩ := State.startSlot_moves (s.elapse dt) (s.elapse dt).nextSlot
    exact .trans (.single (.replay (.slot v due.1.1 due.1.2 starts))) rest
  · exact .refl

theorem execCycleEnd_moves (dt : Time) (s : State) : ∃ t, execCycleEnd dt s = .next t ∧ Moves (s.elapse dt) t := by
  refine ⟨_, rfl, ?_⟩
  split
  · rename_i due
    simp only [State.cycleEndDue, Bool.and_eq_true] at due
    exact State.endCycle_moves _ due.1.1
  · exact .refl

theorem execBlockResetReplay_moves (dt : Time) (s : State) : ∃ t, execBlockResetReplay dt s = .next t ∧ Moves (s.elapse dt) t := by
  refine ⟨_, rfl, ?_⟩
  split
  · exact .refl
  · rename_i taken
    refine (State.takeFrame_moves taken).trans ?_
    split
    · exact .refl
    · rename_i started
      exact State.resetReplay_moves _ (State.not_isStarting started)

/-! ## Peers and counters -/

theorem execPresence_moves (dt : Time) (s : State) : ∃ t, execPresence dt s = .next t ∧ Moves (s.elapse dt) t := by
  refine ⟨_, rfl, ?_⟩
  split
  · exact .refl
  · rename_i f t taken
    have released := State.takeFrame_moves taken
    obtain ⟨oldest, -, rfl⟩ := State.takeFrame_inv taken
    split
    · split
      · exact released
      · rw [State.takePresence_released]
        exact (State.takePresence_moves (List.mem_of_find?_eq_some oldest) _ _ _).tail (.bus (.release _))
    · exact released

theorem execLoad_moves (dt : Time) (s : State) : ∃ t, execLoad dt s = .next t ∧ Moves (s.elapse dt) t := by
  refine ⟨_, rfl, ?_⟩
  split
  · exact .refl
  · rename_i taken
    refine (State.takeFrame_moves taken).trans ?_
    split
    · split
      · exact .refl
      · exact State.takeLoad_moves _ _ _
    · exact .refl

theorem execHarvestRequest_moves (dt : Time) (s : State) : ∃ t, execHarvestRequest dt s = .next t ∧ Moves (s.elapse dt) t := by
  refine ⟨_, rfl, ?_⟩
  split
  · exact .refl
  · rename_i taken
    refine (State.takeFrame_moves taken).trans ?_
    split
    · exact .refl
    · exact State.flags_moves _ _ rfl rfl rfl fun k => by cases k <;> rfl

theorem execBlockResetCounters_moves (dt : Time) (s : State) : ∃ t, execBlockResetCounters dt s = .next t ∧ Moves (s.elapse dt) t := by
  refine ⟨_, rfl, ?_⟩
  split
  · exact .refl
  · rename_i taken
    refine (State.takeFrame_moves taken).trans ?_
    split
    · exact .refl
    · exact .single (.counter .reset)

/-! ## The row bus and the radio link -/

theorem execFrameReceived_moves (dt : Time) (bytes : List Byte) (s : State) :
    ∃ t, execFrameReceived dt bytes s = .next t ∧ Moves (s.elapse dt) t := by
  refine ⟨_, rfl, ?_⟩
  dsimp only
  split
  · exact .refl
  · refine (State.line_moves _ { (s.elapse dt).rbc with quietSince := some (s.elapse dt).now, rxMuted := false }
      rfl (.inr rfl) rfl rfl rfl).trans ?_
    split
    · exact .refl
    · exact State.receive_moves _ _

theorem execLineBusy_moves (dt : Time) (s : State) : ∃ t, execLineBusy dt s = .next t ∧ Moves (s.elapse dt) t :=
  ⟨_, rfl, State.line_moves _ _ rfl (.inr rfl) rfl rfl rfl⟩

theorem execDeferralComplete_moves (dt : Time) (s : State) : ∃ t, execDeferralComplete dt s = .next t ∧ Moves (s.elapse dt) t := by
  refine ⟨_, rfl, ?_⟩
  split
  · exact State.startSending_moves _
  · exact .refl

theorem execTxCollision_moves (dt : Time) (s : State) : ∃ t, execTxCollision dt s = .next t ∧ Moves (s.elapse dt) t := by
  refine ⟨_, rfl, ?_⟩
  dsimp only
  split
  · rename_i f n wire attempt
    have counted := State.count_moves (s.elapse dt) .collisions
    have muted := State.line_moves ((s.elapse dt).count .collisions)
      { ((s.elapse dt).count .collisions).rbc with rxMuted := true } rfl (.inr rfl) rfl rfl rfl
    refine (counted.trans muted).trans ?_
    have attempt' : ((s.elapse dt).count .collisions).rbc.tx = .sending f n wire := by simpa using attempt
    split
    · rename_i left
      refine State.line_moves _ _ ?_ (.inl left) rfl rfl rfl
      simp only [State.setRbc_rbc, attempt']
      rfl
    · refine (State.count_moves _ .txLost).trans (State.loseHand_moves (n := n) (wire := wire) ?_)
      simpa using attempt
  · exact .refl

theorem execTxComplete_moves (dt : Time) (s : State) : ∃ t, execTxComplete dt s = .next t ∧ Moves (s.elapse dt) t := by
  refine ⟨_, rfl, ?_⟩
  dsimp only
  split
  · rename_i f n wire attempt
    exact .single (.bus (.complete f n wire _ attempt))
  · exact .refl

theorem execRadioReady_moves (dt : Time) (s : State) : ∃ t, execRadioReady dt s = .next t ∧ Moves (s.elapse dt) t :=
  ⟨_, rfl, .single (.radio .ready)⟩

theorem execRadioReadyWithdrawn_moves (dt : Time) (s : State) :
    ∃ t, execRadioReadyWithdrawn dt s = .next t ∧ Moves (s.elapse dt) t :=
  ⟨_, rfl, .single (.radio .withdrawn)⟩

theorem execDownlinkTransferComplete_moves (dt : Time) (s : State) :
    ∃ t, execDownlinkTransferComplete dt s = .next t ∧ Moves (s.elapse dt) t := by
  refine ⟨_, rfl, ?_⟩
  split
  · rename_i bytes transfer
    exact .single (.radio (.completed bytes transfer))
  · exact .refl

/-! ## Every command, every step -/

/-- Every command of every state ends so. -/
theorem exec_ends (c : Instr) (s : State) : s.Ends (elapsedBy c) (exec c s) := by
  cases c with
  | powerOnReset dt strap => exact execPowerOnReset_ends dt strap s
  | resetPin dt strap => exact execResetPin_ends dt strap s
  | stationRecordReadDone dt record => exact execStationRecordReadDone_ends dt record s
  | stationRecordReadTimeout dt => exact execStationRecordReadTimeout_ends dt s
  | announcementPeriodBoundary dt => exact execAnnouncementPeriodBoundary_ends dt s
  | uplinkRecordArrival dt record => exact .of_moves (execUplinkRecordArrival_moves dt record s)
  | heard dt => exact .of_moves (execHeard_moves dt s)
  | joinRequest dt => exact .of_moves (execJoinRequest_moves dt s)
  | leave dt => exact .of_moves (execLeave_moves dt s)
  | capsPiece dt => exact .of_moves (execCapsPiece_moves dt s)
  | subscribeOn dt => exact .of_moves (execSubscribeOn_moves dt s)
  | subscribeOff dt => exact .of_moves (execSubscribeOff_moves dt s)
  | token dt => exact .of_moves (execToken_moves dt s)
  | inactivityExpiry dt c => exact .of_moves (execInactivityExpiry_moves dt c s)
  | sightingExpiry dt c => exact .of_moves (execSightingExpiry_moves dt c s)
  | backoffExpiry dt c => exact .of_moves (execBackoffExpiry_moves dt c s)
  | roamClaim dt => exact .of_moves (execRoamClaim_moves dt s)
  | roamGrant dt => exact .of_moves (execRoamGrant_moves dt s)
  | roamDeny dt => exact .of_moves (execRoamDeny_moves dt s)
  | roamReturn dt => exact .of_moves (execRoamReturn_moves dt s)
  | clientMoved dt => exact .of_moves (execClientMoved_moves dt s)
  | contextReply dt => exact .of_moves (execContextReply_moves dt s)
  | claimTimerExpiry dt c => exact .of_moves (execClaimTimerExpiry_moves dt c s)
  | roamInTimerExpiry dt c => exact .of_moves (execRoamInTimerExpiry_moves dt c s)
  | grantTimerExpiry dt c => exact .of_moves (execGrantTimerExpiry_moves dt c s)
  | holdDownExpiry dt c => exact .of_moves (execHoldDownExpiry_moves dt c s)
  | contextWaitExpiry dt c => exact .of_moves (execContextWaitExpiry_moves dt c s)
  | tokenForward dt => exact .of_moves (execTokenForward_moves dt s)
  | tokenResult dt => exact .of_moves (execTokenResult_moves dt s)
  | pendingTokenTimerExpiry dt c n => exact .of_moves (execPendingTokenTimerExpiry_moves dt c n s)
  | seatHoldExpiry dt n => exact .of_moves (execSeatHoldExpiry_moves dt n s)
  | seatReleased dt => exact .of_moves (execSeatReleased_moves dt s)
  | authorityTimerExpiry dt n => exact .of_moves (execAuthorityTimerExpiry_moves dt n s)
  | authorityAnswerKeep dt => exact .of_moves (execAuthorityAnswerKeep_moves dt s)
  | authorityAnswerReplace dt => exact .of_moves (execAuthorityAnswerReplace_moves dt s)
  | authorityAnswerBlock dt => exact .of_moves (execAuthorityAnswerBlock_moves dt s)
  | authorityAnswerUnblock dt => exact .of_moves (execAuthorityAnswerUnblock_moves dt s)
  | matchStateOpen dt => exact .of_moves (execMatchStateOpen_moves dt s)
  | matchStateClosed dt => exact .of_moves (execMatchStateClosed_moves dt s)
  | blockResetRoam dt => exact .of_moves (execBlockResetRoam_moves dt s)
  | blockResetTicket dt => exact .of_moves (execBlockResetTicket_moves dt s)
  | blockResetReplay dt => exact .of_moves (execBlockResetReplay_moves dt s)
  | blockResetCounters dt => exact .of_moves (execBlockResetCounters_moves dt s)
  | streamAnnounceLive dt => exact .of_moves (execStreamAnnounceLive_moves dt s)
  | streamAnnounceEnded dt => exact .of_moves (execStreamAnnounceEnded_moves dt s)
  | segment dt => exact .of_moves (execSegment_moves dt s)
  | slotStart dt => exact .of_moves (execSlotStart_moves dt s)
  | cycleEnd dt => exact .of_moves (execCycleEnd_moves dt s)
  | presence dt => exact .of_moves (execPresence_moves dt s)
  | load dt => exact .of_moves (execLoad_moves dt s)
  | harvestRequest dt => exact .of_moves (execHarvestRequest_moves dt s)
  | frameReceived dt bytes => exact .of_moves (execFrameReceived_moves dt bytes s)
  | lineBusy dt => exact .of_moves (execLineBusy_moves dt s)
  | deferralComplete dt => exact .of_moves (execDeferralComplete_moves dt s)
  | txCollision dt => exact .of_moves (execTxCollision_moves dt s)
  | txComplete dt => exact .of_moves (execTxComplete_moves dt s)
  | radioReady dt => exact .of_moves (execRadioReady_moves dt s)
  | downlinkTransferComplete dt => exact .of_moves (execDownlinkTransferComplete_moves dt s)
  | radioReadyWithdrawn dt => exact .of_moves (execRadioReadyWithdrawn_moves dt s)

theorem step_changes {s t : State} (h : step s = .next t) : Changes s t := by
  unfold step at h
  split at h
  · cases h
    exact .refl
  · rename_i c rest _
    obtain ⟨u, hu, changes, -, -⟩ := exec_ends c { s with pending := rest }
    rw [hu] at h
    cases h
    exact .head (.commands rest) (.head (.time _) changes)

/-- An invariant that every change keeps is kept by every step. -/
theorem step_keeps {P : State → Prop} (keeps : ∀ s t, P s → Change s t → P t) {s t : State} (holds : P s)
    (h : step s = .next t) : P t := by
  have run := step_changes h
  clear h
  induction run with
  | refl => exact holds
  | tail _ change ih => exact keeps _ _ ih change

end Sys2Proof.Machine
end

section
/-! SUPPORT. Which changes touch a block, block by block; and the radio link's order. -/

namespace Sys2Proof.Machine

/-! ## The node under its parameters -/

@[simp] theorem State.configured_frame (s : State) (p : Option Params) :
    (s.configured p).now = s.now ∧ (s.configured p).pending = s.pending ∧ (s.configured p).freeCount = s.freeCount ∧
      (s.configured p).au = s.au ∧ (s.configured p).ru = s.ru ∧ (s.configured p).rbc = s.rbc ∧
      (s.configured p).rp = s.rp :=
  ⟨rfl, rfl, rfl, rfl, rfl, rfl, rfl⟩

@[simp] theorem State.configured_nodeState (s : State) (p : Option Params) :
    (s.configured p).sl.nodeState = .listening ∧ (s.configured p).sl.ownAddress = s.sl.ownAddress ∧
      (s.configured p).par = p.getD Params.default :=
  ⟨rfl, rfl, rfl⟩

/-! ## The radio link (R172, R175, R176) -/

theorem Move.rp_cases {s t : State} (m : Move s t) : RadioMove s t ∨ t.rp = s.rp := by
  cases m with
  | radio m => exact .inl m
  | drawn => exact .inr rfl
  | counter m => rw [m.frame.1]; exact .inr rfl
  | bus m => rw [m.frame.1]; exact .inr rfl
  | peer m => rw [m.frame.1]; exact .inr rfl
  | seat m => exact .inr rfl
  | client m => rw [m.frame]; exact .inr rfl
  | listener m => rw [m.frame]; exact .inr rfl
  | replay m => rw [m.frame]; exact .inr rfl

theorem Change.rp_cases {s t : State} (change : Change s t) :
    RadioMove s t ∨ t.rp = s.rp ∨ ∃ ready, t.rp = RadioPort.initial ready := by
  cases change with
  | move m => exact m.rp_cases.imp_right .inl
  | reset quiet ready strap => exact .inr (.inr ⟨ready, by simp; rfl⟩)
  | time dt => exact .inr (.inl rfl)
  | commands rest => exact .inr (.inl rfl)
  | listen p => exact .inr (.inl (by simp))
  | crowded p => exact .inr (.inl rfl)
  | boundary next => exact .inr (.inl rfl)
  | listened => exact .inr (.inl (by simp))

theorem RadioPort.initial_ordered (ready : Bool) : (RadioPort.initial ready).ordered :=
  ⟨Nat.zero_le _, Nat.zero_le _, Nat.zero_le _, fun h => absurd rfl h, nofun, fun _ _ => rfl⟩

/-- The link in order but for a transfer that may be due. -/
def RadioPort.almostOrdered (p : RadioPort) : Prop :=
  p.uplink.length ≤ uplinkPlaces ∧ p.downlink.length ≤ downlinkPlaces ∧ p.held.length ≤ heldPlaces ∧
    (p.held ≠ [] → p.downlink.length = downlinkPlaces) ∧
    ∀ bytes, p.transfer = .sending bytes → ∃ r rest, p.downlink = r :: rest ∧ bytes = r.bytes

theorem State.startTransfer_ordered {s : State} (h : s.rp.almostOrdered) : s.startTransfer.rp.ordered := by
  obtain ⟨uplink, downlink, held, full, oldest⟩ := h
  unfold State.startTransfer
  split
  · rename_i r rest idle ready queue
    refine ⟨uplink, downlink, held, full, fun bytes e => ⟨r, rest, queue, ?_⟩, nofun⟩
    cases e
    rfl
  · rename_i other
    refine ⟨uplink, downlink, held, full, oldest, fun idle ready => ?_⟩
    match queue : s.rp.downlink with
    | [] => rfl
    | r :: rest => exact absurd queue (other r rest idle ready)

theorem RadioPort.ordered.almost {p : RadioPort} (h : p.ordered) : p.almostOrdered := by
  obtain ⟨uplink, downlink, held, full, oldest, -⟩ := h
  exact ⟨uplink, downlink, held, full, oldest⟩

theorem RadioPort.completed_almostOrdered {p : RadioPort} {bytes : List Byte} (h : p.ordered)
    (transfer : p.transfer = .sending bytes) : p.completed.almostOrdered := by
  obtain ⟨uplink, downlink, held, full, oldest, -⟩ := h
  obtain ⟨r, rest, queue, -⟩ := oldest bytes transfer
  rw [queue] at downlink full
  unfold RadioPort.completed
  split
  · rename_i r' rest' waits
    rw [waits] at held full
    have := full (List.cons_ne_nil _ _)
    refine ⟨uplink, ?_, ?_, fun _ => ?_, nofun⟩ <;> simp [queue] at * <;> omega
  · rename_i empty
    refine ⟨uplink, ?_, held, fun h => absurd empty h, nofun⟩
    simp [queue] at *
    omega

theorem RadioMove.keeps_ordered {s t : State} (h : s.rp.ordered) (m : RadioMove s t) : t.rp.ordered := by
  have almost := h.almost
  obtain ⟨uplink, downlink, held, full, oldest, waits⟩ := h
  cases m with
  | queue r room =>
    refine State.startTransfer_ordered ⟨uplink, ?_, held, fun h => ?_, fun bytes sending => ?_⟩
    · simpa using room
    · exact absurd (full h) (by omega)
    · obtain ⟨r', rest, queue, e⟩ := oldest bytes sending
      exact ⟨r', rest ++ [r], by simp [queue], e⟩
  | hold r crowded place =>
    refine ⟨uplink, downlink, by simpa using place, fun _ => ?_, oldest, waits⟩
    exact crowded.elim full fun h => Nat.le_antisymm downlink h
  | taken => exact ⟨(List.length_tail.trans_le (Nat.sub_le _ _)).trans uplink, downlink, held, full, oldest, waits⟩
  | arrival r place => exact ⟨by simpa using place, downlink, held, full, oldest, waits⟩
  | ready => exact State.startTransfer_ordered almost
  | withdrawn => exact ⟨uplink, downlink, held, full, oldest, nofun⟩
  | completed bytes transfer =>
    exact State.startTransfer_ordered
      (RadioPort.completed_almostOrdered ⟨uplink, downlink, held, full, oldest, waits⟩ transfer)

theorem Change.keeps_radioOrdered {s t : State} (h : s.rp.ordered) (change : Change s t) : t.rp.ordered := by
  obtain m | same | ⟨ready, initial⟩ := change.rp_cases
  · exact m.keeps_ordered h
  · rwa [same]
  · rw [initial]
    exact RadioPort.initial_ordered ready

end Sys2Proof.Machine

open Sys2Proof Sys2Proof.Machine

/-- Settles O54: the radio link's own moves and a reset are the only changes that touch it, and each leaves it in order. -/
theorem stepKeepsRadioOrdered : Obligations.StepKeepsRadioOrdered := by
  unfold Obligations.StepKeepsRadioOrdered
  intro s t h next
  exact step_keeps (P := fun s => s.rp.ordered) (fun _ _ h c => c.keeps_radioOrdered h) h next

end

section
/-! SUPPORT. The counters and the snapshot: what each change keeps of their order (R182, R185, R189). -/

namespace Sys2Proof.Machine

/-- The bank's part of the counters' order, under a mask. -/
def CounterBank.ordered (b : CounterBank) (mask : BitVec 24) : Prop :=
  ∀ k : Fin 24,
    (b.counters.get k).value ≤ counterMax ∧ (b.snapshot.get k).value ≤ (b.counters.get k).value ∧
      (mask.getLsbD k = true → b.counters.get k = { value := 0, saturated := false })

theorem CounterBank.zeros_get (k : Fin 24) : CounterBank.zeros.get k = { value := 0, saturated := false } :=
  Vector.getElem_replicate k.isLt

theorem CounterBank.ordered.zeroed {b : CounterBank} {mask : BitVec 24} (h : b.ordered mask) :
    CounterBank.ordered { b with snapshot := CounterBank.zeros } mask := by
  intro k
  obtain ⟨most, -, masked⟩ := h k
  exact ⟨most, by rw [CounterBank.zeros_get]; exact Nat.zero_le _, masked⟩

theorem CounterBank.ordered.snapped {b : CounterBank} {mask : BitVec 24} (h : b.ordered mask) :
    CounterBank.ordered { b with snapshot := b.counters } mask := by
  intro k
  obtain ⟨most, -, masked⟩ := h k
  exact ⟨most, Nat.le_refl _, masked⟩

theorem CounterBank.ordered.subtracted {b : CounterBank} {mask : BitVec 24} (h : b.ordered mask) :
    CounterBank.ordered { counters := subtractSnapshot b.counters b.snapshot, snapshot := CounterBank.zeros } mask := by
  intro k
  obtain ⟨most, -, masked⟩ := h k
  have get : (subtractSnapshot b.counters b.snapshot).get k =
      { value := (b.counters.get k).value - (b.snapshot.get k).value, saturated := false } :=
    Vector.getElem_zipWith k.isLt
  rw [get, CounterBank.zeros_get]
  refine ⟨(Nat.sub_le _ _).trans most, Nat.zero_le _, fun m => ?_⟩
  rw [masked m]
  simp

theorem CounterBank.zeros_ordered (mask : BitVec 24) :
    CounterBank.ordered { counters := CounterBank.zeros, snapshot := CounterBank.zeros } mask := by
  intro k
  rw [CounterBank.zeros_get]
  exact ⟨Nat.zero_le _, Nat.zero_le _, fun _ => rfl⟩

theorem Counter.bump_spec (c : Counter) (h : c.value ≤ counterMax) : c.value ≤ c.bump.value ∧ c.bump.value ≤ counterMax := by
  unfold Counter.bump
  split <;> constructor <;> dsimp only <;> omega

theorem CounterBank.ordered.bump {b : CounterBank} {mask : BitVec 24} (h : b.ordered mask) {k : CounterId}
    (counts : mask.getLsbD k.index = false) : (b.bump k).ordered mask := by
  intro j
  obtain ⟨most, snapped, masked⟩ := h j
  by_cases same : j = k.index
  · subst same
    obtain ⟨grows, bound⟩ := Counter.bump_spec _ most
    rw [CounterBank.bump_get_self, CounterBank.bump_snapshot]
    exact ⟨bound, snapped.trans grows, fun m => absurd m (by rw [counts]; decide)⟩
  · have other : (b.bump k).counters.get j = b.counters.get j :=
      Vector.getElem_set_ne k.index.isLt j.isLt fun e => same (Fin.ext e.symm)
    rw [other, CounterBank.bump_snapshot]
    exact ⟨most, snapped, masked⟩

theorem CounterBank.masked_ordered (mask : BitVec 24) {b : CounterBank} (bounded : b.ordered 0)
    (unsnapped : b.snapshot = CounterBank.zeros) :
    CounterBank.ordered { b with counters := maskCounters mask b.counters } mask := by
  intro k
  obtain ⟨most, -, -⟩ := bounded k
  have get : (maskCounters mask b.counters).get k =
      if mask.getLsbD k then { value := 0, saturated := false } else b.counters.get k :=
    Vector.getElem_ofFn k.isLt
  dsimp only
  rw [get, unsnapped, CounterBank.zeros_get]
  refine ⟨?_, Nat.zero_le _, fun m => if_pos m⟩
  split
  · exact Nat.zero_le _
  · exact most

theorem CounterBank.ordered.unmasked {b : CounterBank} {mask : BitVec 24} (h : b.ordered mask) : b.ordered 0 := by
  intro k
  obtain ⟨most, snapped, -⟩ := h k
  exact ⟨most, snapped, fun m => absurd m (by simp)⟩

/-! ## The operations -/

/-- The order reads the bank, the start-up state and the boundary; a changed bank keeps it if it is in order itself and its snapshot is
the one it was, or zeros, or the node is past its start. -/
theorem State.countersOrdered.of_bank {s t : State} (h : s.countersOrdered) (sl : t.sl = s.sl)
    (next : t.anu.nextBoundary = s.anu.nextBoundary) (bank : t.cb.ordered s.par.mask)
    (snapshot : t.cb.snapshot = s.cb.snapshot ∨ t.cb.snapshot = CounterBank.zeros ∨ s.anu.nextBoundary ≠ none) :
    t.countersOrdered := by
  refine ⟨by rw [State.par, sl]; exact bank, fun starting => ?_⟩
  rw [sl] at starting
  obtain ⟨zeros, none⟩ := h.2 starting
  rw [next]
  refine ⟨?_, none⟩
  obtain e | e | e := snapshot
  · rw [e, zeros]
  · exact e
  · exact absurd none e

theorem State.countersOrdered.of_same {s t : State} (h : s.countersOrdered) (sl : t.sl = s.sl)
    (next : t.anu.nextBoundary = s.anu.nextBoundary) (cb : t.cb = s.cb) : t.countersOrdered :=
  h.of_bank sl next (by rw [cb]; exact h.1) (.inl (by rw [cb]))

theorem State.countersOrdered.count {s : State} (h : s.countersOrdered) (k : CounterId) : (s.count k).countersOrdered := by
  cases masked : s.masked k with
  | true => rwa [State.count_of_masked masked]
  | false =>
    refine h.of_bank (by simp) (s.count_lists k).2.2 ?_ (.inl ?_) <;> rw [State.count_cb masked]
    · exact CounterBank.ordered.bump h.1 masked
    · rfl

theorem State.countersOrdered.clearLost {s : State} (h : s.countersOrdered) (f : TxFrame) : (s.clearLost f).countersOrdered := by
  have lists := s.clearLost_lists f
  have cases : (s.clearLost f).cb = s.cb ∨ (s.clearLost f).cb = { s.cb with snapshot := CounterBank.zeros } := by
    unfold State.clearLost
    split
    · exact .inr rfl
    · exact .inl rfl
    · exact .inl rfl
  obtain same | zeroed := cases
  · exact h.of_same (by simp) lists.2.2 same
  · refine h.of_bank (by simp) lists.2.2 ?_ (.inr (.inl ?_)) <;> rw [zeroed]
    exact CounterBank.ordered.zeroed h.1

theorem State.countersOrdered.reportCompletion {s : State} (h : s.countersOrdered) (f : TxFrame) :
    (s.reportCompletion f).countersOrdered := by
  unfold State.reportCompletion
  split
  · exact h.of_bank rfl rfl (CounterBank.ordered.subtracted h.1) (.inr (.inl rfl))
  · exact h.of_same rfl (s.setQueued_lists _ _).2.2 rfl
  · exact h

theorem State.countersOrdered.nextFrame {s : State} (h : s.countersOrdered) : s.nextFrame.countersOrdered :=
  h.of_same (by simp) (by simp) (by simp)

/-! ## The changes -/

theorem CounterMove.keeps_countersOrdered {s t : State} (h : s.countersOrdered) (m : CounterMove s t) : t.countersOrdered := by
  cases m with
  | count k => exact h.count k
  | reset => exact h.of_bank rfl rfl (CounterBank.zeros_ordered _) (.inr (.inl rfl))
  | snapshot due => exact h.of_bank rfl rfl (CounterBank.ordered.snapped h.1) (.inr (.inr due))

theorem BusMove.keeps_countersOrdered {s t : State} (h : s.countersOrdered) (m : BusMove s t) : t.countersOrdered := by
  cases m with
  | accept f => exact h.of_same (by simp) (s.acceptFrame_lists f).2.2 (by simp)
  | exchange f old front =>
    have lost := State.countersOrdered.clearLost (s := s.setRbc { s.rbc with txNormal := front }) h old
    exact lost.of_same (by simp) (State.acceptFrame_lists _ f).2.2 (by simp)
  | lose f n wire => exact (h.clearLost f).nextFrame
  | complete f n wire k => exact State.countersOrdered.nextFrame (s := ((s.reportCompletion f).count k).quieted) ((h.reportCompletion f).count k)
  | line b => exact h
  | store f => exact h
  | release b => exact h

theorem Move.keeps_countersOrdered {s t : State} (h : s.countersOrdered) (m : Move s t) : t.countersOrdered := by
  obtain ⟨sl, -, -, next⟩ := m.keeps
  cases m with
  | counter m => exact m.keeps_countersOrdered h
  | bus m => exact m.keeps_countersOrdered h
  | drawn => exact h
  | radio m => exact h.of_same sl next (by rw [m.frame]; rfl)
  | peer m => exact h.of_same sl next (by rw [m.frame.1]; rfl)
  | seat m => exact h
  | client m => exact h.of_same sl next (by rw [m.frame]; rfl)
  | listener m => exact h.of_same sl next (by rw [m.frame]; rfl)
  | replay m => exact h.of_same sl next (by rw [m.frame]; rfl)

theorem State.configured_countersOrdered {s : State} (h : s.countersOrdered) (starting : s.sl.nodeState = .starting)
    (p : Option Params) : (s.configured p).countersOrdered := by
  refine ⟨CounterBank.masked_ordered _ (CounterBank.ordered.unmasked h.1) (h.2 starting).1, fun listening => ?_⟩
  rw [(s.configured_nodeState p).1] at listening
  cases listening

theorem State.countListening_nodeState (s : State) (h : s.countListening.sl.nodeState = .starting) :
    s.sl.nodeState = .starting := by
  unfold State.countListening at h
  split at h
  · rw [State.setSl_sl] at h
    dsimp only at h
    split at h <;> cases h
  · exact h

theorem State.countListening_par (s : State) : s.countListening.par = s.par := by
  unfold State.countListening
  split <;> rfl

theorem State.readStrap_countersOrdered {s : State} (zeros : s.cb = CounterBank.initial) (par : s.par.mask = 0)
    (next : s.anu.nextBoundary = none) (strap : BitVec 5) : (s.readStrap strap).countersOrdered := by
  unfold State.readStrap
  split
  · refine ⟨?_, fun _ => ⟨by rw [State.setSl_cb, zeros]; rfl, next⟩⟩
    change s.cb.ordered s.par.mask
    rw [zeros, par]
    exact CounterBank.zeros_ordered 0
  · refine ⟨?_, nofun⟩
    change CounterBank.ordered { s.cb with counters := maskCounters 0 s.cb.counters } 0
    rw [zeros]
    exact CounterBank.masked_ordered 0 (CounterBank.zeros_ordered 0) rfl

theorem Change.keeps_countersOrdered {s t : State} (h : s.countersOrdered) (change : Change s t) : t.countersOrdered := by
  cases change with
  | move m => exact m.keeps_countersOrdered h
  | time dt => exact h
  | commands rest => exact h
  | reset quiet ready strap => exact State.readStrap_countersOrdered rfl rfl rfl strap
  | listen p starting =>
    exact (State.configured_countersOrdered h starting p).of_same (by simp) (State.acceptFrame_lists _ _).2.2 (by simp)
  | crowded p starting => exact State.configured_countersOrdered h starting p
  | boundary next due => exact ⟨h.1, fun starting => absurd (h.2 starting).2 due⟩
  | listened =>
    refine ⟨by simpa [State.countListening_par] using h.1, fun starting => ?_⟩
    simpa using h.2 (s.countListening_nodeState starting)

end Sys2Proof.Machine

open Sys2Proof Sys2Proof.Machine

/-- Settles O55: the bank's own changes and the transmitter's reports keep the bank in order, and nothing else touches it. -/
theorem stepKeepsCountersOrdered : Obligations.StepKeepsCountersOrdered := by
  unfold Obligations.StepKeepsCountersOrdered
  intro s t h next
  exact step_keeps (P := State.countersOrdered) (fun _ _ h c => c.keeps_countersOrdered h) h next

end

section
/-! SUPPORT. The seats, contests and pending tokens: what each change keeps of their order (R69, R73, R74, R87). -/

namespace Sys2Proof.Machine

/-! ## Lists with keys of their own -/

theorem nodup_of_rising {α : Type} {key : α → Nat} {l : List α} (h : (l.map key).Pairwise (· < ·)) : (l.map key).Nodup :=
  h.imp Nat.ne_of_lt

/-- The items of a list without a repeated key are told apart by it. -/
theorem eq_of_key {α κ : Type} {key : α → κ} {l : List α} (h : (l.map key).Nodup) {x y : α} (hx : x ∈ l) (hy : y ∈ l)
    (same : key x = key y) : x = y :=
  List.inj_on_of_nodup_map h hx hy same

/-- A lookup by the key finds the item. -/
theorem eq_of_find {α κ : Type} [BEq κ] [LawfulBEq κ] {key : α → κ} {l : List α} (h : (l.map key).Nodup) {k : κ} {x y : α}
    (found : l.find? (fun x => key x == k) = some x) (hy : y ∈ l) (same : key y = k) : y = x :=
  have hx : key x = k := by simpa using List.find?_some found
  eq_of_key h hy (List.mem_of_find?_eq_some found) (same.trans hx.symm)

theorem mem_changeSeat {n : Seat} {f : SeatRecord → SeatRecord} {l : List SeatRecord} {r' : SeatRecord}
    (h : r' ∈ changeSeat n f l) : ∃ r ∈ l, r.number = n ∧ r' = f r ∨ r.number ≠ n ∧ r' = r := by
  obtain ⟨r, hr, rfl⟩ := List.mem_map.mp h
  refine ⟨r, hr, ?_⟩
  by_cases e : r.number = n
  · exact .inl ⟨e, if_pos (by simpa using e)⟩
  · exact .inr ⟨e, if_neg (by simpa using e)⟩

theorem mem_changeSeat_self {n : Seat} {f : SeatRecord → SeatRecord} {l : List SeatRecord} {r : SeatRecord} (hr : r ∈ l)
    (same : r.number = n) : f r ∈ changeSeat n f l :=
  List.mem_map.mpr ⟨r, hr, if_pos (by simpa using same)⟩

theorem mem_changeSeat_other {n : Seat} {f : SeatRecord → SeatRecord} {l : List SeatRecord} {r : SeatRecord} (hr : r ∈ l)
    (other : r.number ≠ n) : r ∈ changeSeat n f l :=
  List.mem_map.mpr ⟨r, hr, if_neg (by simpa using other)⟩

theorem changeSeat_numbers {n : Seat} {f : SeatRecord → SeatRecord} (number : ∀ r, (f r).number = r.number)
    (l : List SeatRecord) : (changeSeat n f l).map (·.number) = l.map (·.number) := by
  rw [changeSeat, List.map_map]
  refine List.map_congr_left fun r _ => ?_
  dsimp only [Function.comp]
  split
  · exact number r
  · rfl

/-! ## The order, in parts -/

/-- The serial is bound to the seat, or challenges for it. -/
def SeatValidator.claims (v : SeatValidator) (n : Seat) (serial : Serial) : Prop :=
  (∃ r ∈ v.seats, r.number = n ∧ ∃ h, r.state.holder = some h ∧ h.serial = serial) ∨
    ∃ a ∈ v.authority, a.seat = n ∧ a.challenger.serial = serial

/-- A seat with the number is CONTESTED. -/
def SeatValidator.contestedAt (v : SeatValidator) (n : Seat) : Prop :=
  ∃ r ∈ v.seats, r.number = n ∧ r.state.isContested = true

/-- The order of the seats, contests and pending tokens. -/
structure SeatValidator.Ordered (v : SeatValidator) (running : Prop) : Prop where
  rising : (v.seats.map (·.number)).Pairwise (· < ·)
  authority_places : v.authority.length ≤ authorityPlaces
  authority_apart : (v.authority.map (·.seat)).Nodup
  pending_places : v.pendingTokens.length ≤ pendingPlaces
  pending_apart : (v.pendingTokens.map (fun p => (p.client, p.token.serial))).Nodup
  contested : ∀ n, v.contestedAt n ↔ ∃ a ∈ v.authority, a.seat = n
  unique : ∀ n m x, v.claims n x → v.claims m x → n = m
  idle : ¬ running → v.authority = [] ∧ v.pendingTokens = []

theorem State.seatsOrdered_iff (s : State) : s.seatsOrdered ↔ s.sv.Ordered (s.sl.nodeState = .running) := by
  constructor
  · rintro ⟨rising, places, apart, pending, pendingApart, contested, held, challenged, challengers, idle⟩
    refine ⟨rising, places, apart, pending, pendingApart, contested, ?_, idle⟩
    rintro n m x (⟨r, hr, rfl, h, holds, rfl⟩ | ⟨a, ha, rfl, rfl⟩) (⟨r', hr', rfl, h', holds', e⟩ | ⟨a', ha', rfl, e⟩)
    · exact held r hr r' hr' h h' holds holds' e.symm
    · exact challenged r hr h holds a' ha' e
    · exact (challenged r' hr' h' holds' a ha e.symm).symm
    · exact challengers a ha a' ha' e.symm
  · rintro ⟨rising, places, apart, pending, pendingApart, contested, unique, idle⟩
    refine ⟨rising, places, apart, pending, pendingApart, contested, ?_, ?_, ?_, idle⟩
    · intro r hr r' hr' h h' holds holds' e
      exact unique _ _ _ (.inl ⟨r, hr, rfl, h, holds, e⟩) (.inl ⟨r', hr', rfl, h', holds', rfl⟩)
    · intro r hr h holds a ha e
      exact unique _ _ _ (.inl ⟨r, hr, rfl, h, holds, rfl⟩) (.inr ⟨a, ha, rfl, e⟩)
    · intro a ha a' ha' e
      exact unique _ _ _ (.inr ⟨a, ha, rfl, rfl⟩) (.inr ⟨a', ha', rfl, e.symm⟩)

theorem SeatValidator.Free.claims {v : SeatValidator} {n m : Seat} {serial : Serial} (free : v.Free n serial)
    (h : v.claims m serial) : m = n := by
  obtain ⟨r, hr, rfl, h, holds, e⟩ | ⟨a, ha, rfl, e⟩ := h
  · by_contra other
    exact free.1 r hr other h holds e
  · by_contra other
    exact free.2 a ha other e

/-- Claims that are old, or of a serial free for their seat, stay unique. -/
theorem SeatValidator.Ordered.unique_of {v v' : SeatValidator} {running : Prop} (o : v.Ordered running) {n : Seat}
    {serial : Serial} (free : v.Free n serial)
    (old : ∀ m x, v'.claims m x → v.claims m x ∨ m = n ∧ x = serial) : ∀ k m x, v'.claims k x → v'.claims m x → k = m := by
  intro k m x hk hm
  obtain ck | ⟨rfl, rfl⟩ := old k x hk <;> obtain cm | ⟨rfl, e⟩ := old m _ hm
  · exact o.unique _ _ _ ck cm
  · exact free.claims (e ▸ ck)
  · exact (free.claims cm).symm
  · rfl

theorem SeatValidator.Ordered.unique_of_old {v v' : SeatValidator} {running : Prop} (o : v.Ordered running)
    (old : ∀ m x, v'.claims m x → v.claims m x) : ∀ k m x, v'.claims k x → v'.claims m x → k = m :=
  fun k m x hk hm => o.unique k m x (old k x hk) (old m x hm)

/-! ## The moves -/

/-- Seats changed record by record, with the authority list as it is. -/
theorem SeatValidator.Ordered.of_tame {v v' : SeatValidator} {running : Prop} (o : v.Ordered running)
    (numbers : v'.seats.map (·.number) = v.seats.map (·.number)) (authority : v'.authority = v.authority)
    (pending : v'.pendingTokens = v.pendingTokens)
    (back : ∀ r' ∈ v'.seats, ∃ r ∈ v.seats, SeatRecord.Tame r r')
    (on : ∀ r ∈ v.seats, ∃ r' ∈ v'.seats, SeatRecord.Tame r r') : v'.Ordered running where
  rising := by rw [numbers]; exact o.rising
  authority_places := by rw [authority]; exact o.authority_places
  authority_apart := by rw [authority]; exact o.authority_apart
  pending_places := by rw [pending]; exact o.pending_places
  pending_apart := by rw [pending]; exact o.pending_apart
  contested n := by
    rw [authority, ← o.contested n]
    constructor
    · rintro ⟨r', hr', number, contested⟩
      obtain ⟨r, hr, tame⟩ := back r' hr'
      exact ⟨r, hr, tame.number ▸ number, tame.contested ▸ contested⟩
    · rintro ⟨r, hr, number, contested⟩
      obtain ⟨r', hr', tame⟩ := on r hr
      exact ⟨r', hr', tame.number.trans number, tame.contested.trans contested⟩
  unique := by
    refine o.unique_of_old fun m x claim => ?_
    obtain ⟨r', hr', number, h', holds', e⟩ | ⟨a, ha, rest⟩ := claim
    · obtain ⟨r, hr, tame⟩ := back r' hr'
      obtain ⟨h, holds, serial⟩ := tame.holder h' holds'
      exact .inl ⟨r, hr, tame.number ▸ number, h, holds, serial.trans e⟩
    · exact .inr ⟨a, authority ▸ ha, rest⟩
  idle stops := by rw [authority, pending]; exact o.idle stops

/-- The pending list alone changed. -/
theorem SeatValidator.Ordered.of_pending {v : SeatValidator} {running : Prop} (o : v.Ordered running) {l : List PendingToken}
    (places : l.length ≤ pendingPlaces) (apart : (l.map (fun p => (p.client, p.token.serial))).Nodup)
    (idle : ¬ running → l = []) : SeatValidator.Ordered { v with pendingTokens := l } running :=
  { o with
    pending_places := places
    pending_apart := apart
    idle := fun stops => ⟨(o.idle stops).1, idle stops⟩ }

/-- The answers to come may change their fields other than seat and challenger. -/
theorem SeatValidator.Ordered.of_requery {v : SeatValidator} {running : Prop} (o : v.Ordered running) {n : Seat}
    {a a' : AuthorityEntry} (found : v.authority.find? (fun a => a.seat == n) = some a) (seat : a'.seat = a.seat)
    (challenger : a'.challenger = a.challenger) :
    SeatValidator.Ordered { v with authority := v.authority.map (fun x => if x.seat == n then a' else x) } running := by
  have same (x : AuthorityEntry) (hx : x ∈ v.authority) :
      (if x.seat == n then a' else x).seat = x.seat ∧ (if x.seat == n then a' else x).challenger = x.challenger := by
    split
    · rename_i e
      rw [eq_of_find o.authority_apart found hx (by simpa using e)]
      exact ⟨seat, challenger⟩
    · exact ⟨rfl, rfl⟩
  have seats : (v.authority.map (fun x => if x.seat == n then a' else x)).map (·.seat) = v.authority.map (·.seat) := by
    rw [List.map_map]
    exact List.map_congr_left fun x hx => (same x hx).1
  exact
    { o with
      authority_places := by simpa using o.authority_places
      authority_apart := by rw [seats]; exact o.authority_apart
      contested := fun m => by
        refine (o.contested m).trans ?_
        have mem (l : List AuthorityEntry) : (∃ a ∈ l, a.seat = m) ↔ m ∈ l.map (·.seat) := List.mem_map.symm
        rw [mem, mem, seats]
      unique := by
        refine o.unique_of_old fun m x claim => ?_
        obtain bound | ⟨y, hy, rfl, e⟩ := claim
        · exact .inl bound
        · obtain ⟨a0, ha0, rfl⟩ := List.mem_map.mp hy
          obtain ⟨seat0, challenger0⟩ := same a0 ha0
          exact .inr ⟨a0, ha0, seat0.symm, by rw [← challenger0]; exact e⟩
      idle := fun stops => ⟨by simp [(o.idle stops).1], (o.idle stops).2⟩ }

theorem SeatValidator.Ordered.clear {v : SeatValidator} {running : Prop} (o : v.Ordered running) :
    SeatValidator.Ordered { v with seats := v.seats.map SeatRecord.vacated, authority := [] } running where
  rising := by rw [List.map_map]; exact o.rising
  authority_places := Nat.zero_le _
  authority_apart := List.nodup_nil
  pending_places := o.pending_places
  pending_apart := o.pending_apart
  contested n := by
    constructor
    · rintro ⟨r, hr, -, contested⟩
      obtain ⟨r, -, rfl⟩ := List.mem_map.mp hr
      cases contested
    · rintro ⟨a, ha, -⟩
      cases ha
  unique := by
    rintro n m x (⟨r, hr, -, h, holds, -⟩ | ⟨a, ha, -⟩)
    · obtain ⟨r, -, rfl⟩ := List.mem_map.mp hr
      cases holds
    · cases ha
  idle stops := ⟨rfl, (o.idle stops).2⟩

/-- A VACANT seat takes a binding whose serial is free. -/
theorem SeatValidator.Ordered.bind {v : SeatValidator} {running : Prop} (o : v.Ordered running) {n : Seat} {r : SeatRecord}
    {f : SeatRecord → SeatRecord} {st : BoundState} {h : Holder}
    (found : v.seats.find? (fun r => r.number == n) = some r) (vacant : r.state = .vacant)
    (number : ∀ r, (f r).number = r.number) (bound : (f r).state = .bound st h) (free : v.Free n h.serial) :
    SeatValidator.Ordered { v with seats := changeSeat n f v.seats } running := by
  have only {r0 : SeatRecord} (hr0 : r0 ∈ v.seats) (e : r0.number = n) : r0 = r :=
    eq_of_find (nodup_of_rising o.rising) found hr0 e
  exact
    { o with
      rising := by rw [changeSeat_numbers number]; exact o.rising
      contested := fun m => by
        rw [← o.contested m]
        constructor
        · rintro ⟨r', hr', e, contested⟩
          obtain ⟨r0, hr0, ⟨e0, rfl⟩ | ⟨-, rfl⟩⟩ := mem_changeSeat hr'
          · rw [only hr0 e0, bound] at contested
            cases contested
          · exact ⟨r', hr0, e, contested⟩
        · rintro ⟨r0, hr0, e, contested⟩
          refine ⟨r0, mem_changeSeat_other hr0 fun e0 => ?_, e, contested⟩
          rw [only hr0 e0, vacant] at contested
          cases contested
      unique := by
        refine o.unique_of free fun m x claim => ?_
        obtain ⟨r', hr', e, h', holds, serial⟩ | challenge := claim
        · obtain ⟨r0, hr0, ⟨e0, rfl⟩ | ⟨-, rfl⟩⟩ := mem_changeSeat hr'
          · refine .inr ⟨e.symm.trans ((number r0).trans e0), ?_⟩
            rw [only hr0 e0, bound] at holds
            cases holds
            exact serial.symm
          · exact .inl (.inl ⟨r', hr0, e, h', holds, serial⟩)
        · exact .inl (.inr challenge) }

/-- A bound seat is challenged with a serial that is free. -/
theorem SeatValidator.Ordered.contest {v : SeatValidator} {running : Prop} (o : v.Ordered running) {r : SeatRecord}
    {st : BoundState} {b : Holder} {a : AuthorityEntry} (runs : running)
    (found : v.seats.find? (fun r => r.number == a.seat) = some r) (bound : r.state = .bound st b)
    (place : v.authority.length < authorityPlaces) (free : v.Free a.seat a.challenger.serial) :
    SeatValidator.Ordered
      { v with
        seats := changeSeat a.seat (fun r => { r with state := .contested st b }) v.seats, authority := v.authority ++ [a] }
      running := by
  have only {r0 : SeatRecord} (hr0 : r0 ∈ v.seats) (e : r0.number = a.seat) : r0 = r :=
    eq_of_find (nodup_of_rising o.rising) found hr0 e
  have r_mem := List.mem_of_find?_eq_some found
  have r_number : r.number = a.seat := by simpa using List.find?_some found
  have fresh (x : AuthorityEntry) (hx : x ∈ v.authority) : x.seat ≠ a.seat := by
    intro e
    obtain ⟨r0, hr0, e0, contested⟩ := (o.contested x.seat).mpr ⟨x, hx, rfl⟩
    rw [only hr0 (e0.trans e), bound] at contested
    cases contested
  exact
    { o with
      rising := by
        rw [changeSeat_numbers (f := fun r => { r with state := .contested st b }) fun _ => rfl]
        exact o.rising
      authority_places := by simpa using place
      authority_apart := by
        rw [List.map_append, List.nodup_append]
        refine ⟨o.authority_apart, List.nodup_singleton _, ?_⟩
        rintro _ hx _ hy rfl
        obtain ⟨x, hx, e⟩ := List.mem_map.mp hx
        exact fresh x hx (e.trans (List.mem_singleton.mp hy))
      contested := fun m => by
        constructor
        · rintro ⟨r', hr', e, contested⟩
          obtain ⟨r0, hr0, ⟨e0, rfl⟩ | ⟨-, rfl⟩⟩ := mem_changeSeat hr'
          · exact ⟨a, by simp, e0.symm.trans e⟩
          · obtain ⟨x, hx, ex⟩ := (o.contested m).mp ⟨r', hr0, e, contested⟩
            exact ⟨x, by simp [hx], ex⟩
        · rintro ⟨x, hx, rfl⟩
          rcases List.mem_append.mp hx with hx | hx
          · obtain ⟨r0, hr0, e0, contested⟩ := (o.contested x.seat).mpr ⟨x, hx, rfl⟩
            exact ⟨r0, mem_changeSeat_other hr0 fun e => fresh x hx (e0.symm.trans e), e0, contested⟩
          · rw [List.mem_singleton.mp hx]
            exact ⟨_, mem_changeSeat_self r_mem r_number, r_number, rfl⟩
      unique := by
        refine o.unique_of free fun m x claim => ?_
        obtain ⟨r', hr', e, h', holds, serial⟩ | ⟨y, hy, e, serial⟩ := claim
        · obtain ⟨r0, hr0, ⟨e0, rfl⟩ | ⟨-, rfl⟩⟩ := mem_changeSeat hr'
          · refine .inl (.inl ⟨r, r_mem, ?_, b, by rw [bound]; rfl, ?_⟩)
            · rw [← only hr0 e0]
              exact e
            · cases holds
              exact serial
          · exact .inl (.inl ⟨r', hr0, e, h', holds, serial⟩)
        · rcases List.mem_append.mp hy with hy | hy
          · exact .inl (.inr ⟨y, hy, e, serial⟩)
          · rw [List.mem_singleton.mp hy] at e serial
            exact .inr ⟨e.symm, serial.symm⟩
      idle := fun stops => absurd runs stops }

/-- A contest ends: the seat is bound to its incumbent or its challenger, or to neither. -/
theorem SeatValidator.Ordered.settle {v : SeatValidator} {running : Prop} (o : v.Ordered running) {n : Seat}
    {a : AuthorityEntry} {f : SeatRecord → SeatRecord} (found : v.authority.find? (fun a => a.seat == n) = some a)
    (number : ∀ r, (f r).number = r.number) (contested : ∀ r, (f r).state.isContested = false)
    (holder : ∀ r h', (f r).state.holder = some h' →
      h' = a.challenger ∨ ∃ h, r.state.holder = some h ∧ h.serial = h'.serial) :
    SeatValidator.Ordered
      { v with seats := changeSeat n f v.seats, authority := v.authority.filter (fun a => a.seat != n) } running := by
  have a_mem := List.mem_of_find?_eq_some found
  have a_seat : a.seat = n := by simpa using List.find?_some found
  exact
    { o with
      rising := by rw [changeSeat_numbers number]; exact o.rising
      authority_places := (List.length_filter_le _ _).trans o.authority_places
      authority_apart := o.authority_apart.sublist (List.filter_sublist.map _)
      contested := fun m => by
        constructor
        · rintro ⟨r', hr', e, contested'⟩
          obtain ⟨r0, hr0, ⟨e0, rfl⟩ | ⟨e0, rfl⟩⟩ := mem_changeSeat hr'
          · rw [contested r0] at contested'
            cases contested'
          · obtain ⟨x, hx, ex⟩ := (o.contested m).mp ⟨r', hr0, e, contested'⟩
            exact ⟨x, List.mem_filter.mpr ⟨hx, by simpa [ex, ← e] using e0⟩, ex⟩
        · rintro ⟨x, hx, rfl⟩
          obtain ⟨hx, other⟩ := List.mem_filter.mp hx
          obtain ⟨r0, hr0, e0, contested0⟩ := (o.contested x.seat).mpr ⟨x, hx, rfl⟩
          exact ⟨r0, mem_changeSeat_other hr0 (by rw [e0]; simpa using other), e0, contested0⟩
      unique := by
        refine o.unique_of_old fun m x claim => ?_
        obtain ⟨r', hr', e, h', holds, serial⟩ | ⟨y, hy, rest⟩ := claim
        · obtain ⟨r0, hr0, ⟨e0, rfl⟩ | ⟨-, rfl⟩⟩ := mem_changeSeat hr'
          · have at_seat : r0.number = m := (number r0).symm.trans e
            obtain rfl | ⟨h, holds0, serial0⟩ := holder r0 h' holds
            · exact .inr ⟨a, a_mem, a_seat.trans (e0.symm.trans at_seat), serial⟩
            · exact .inl ⟨r0, hr0, at_seat, h, holds0, serial0.trans serial⟩
          · exact .inl ⟨r', hr0, e, h', holds, serial⟩
        · exact .inr ⟨y, (List.mem_filter.mp hy).1, rest⟩
      idle := fun stops => ⟨by simp [(o.idle stops).1], (o.idle stops).2⟩ }

theorem SeatMove.keeps_ordered {running : Prop} {v w : SeatValidator} (o : v.Ordered running) (m : SeatMove running v w) :
    w.Ordered running := by
  cases m with
  | matchState m => exact ⟨o.1, o.2, o.3, o.4, o.5, o.6, o.7, o.8⟩
  | clear => exact o.clear
  | settled l some_of =>
    exact o.of_pending (some_of.length_le.trans o.pending_places) (o.pending_apart.sublist (some_of.map _)) fun stops =>
      List.sublist_nil.mp ((o.idle stops).2 ▸ some_of)
  | pend p runs place new =>
    refine o.of_pending (by simpa using place) ?_ fun stops => absurd runs stops
    rw [List.map_append, List.nodup_append]
    refine ⟨o.pending_apart, List.nodup_singleton _, ?_⟩
    rintro _ hx _ hy rfl
    obtain ⟨q, hq, e⟩ := List.mem_map.mp hx
    have differs := new q hq
    rw [List.mem_singleton.mp hy] at e
    rw [PendingToken.matches, (Prod.mk.inj e).1, (Prod.mk.inj e).2] at differs
    simp at differs
  | retarget f keeps =>
    refine o.of_pending (by simpa using o.pending_places) ?_ fun stops => by rw [(o.idle stops).2]; rfl
    rw [List.map_map]
    refine (congrArg List.Nodup ?_).mpr o.pending_apart
    exact List.map_congr_left fun p _ => keeps p
  | requery n a a' found seat challenger => exact o.of_requery found seat challenger
  | seats f tame =>
    refine o.of_tame ?_ rfl rfl ?_ fun r hr => ⟨f r, List.mem_map_of_mem hr, tame r⟩
    · rw [List.map_map]
      exact List.map_congr_left fun r _ => (tame r).number
    · intro r' hr'
      obtain ⟨r, hr, rfl⟩ := List.mem_map.mp hr'
      exact ⟨r, hr, tame r⟩
  | seat n r f found number tame =>
    have only {r0 : SeatRecord} (hr0 : r0 ∈ v.seats) (e : r0.number = n) : r0 = r :=
      eq_of_find (nodup_of_rising o.rising) found hr0 e
    refine o.of_tame (changeSeat_numbers number _) rfl rfl ?_ ?_
    · intro r' hr'
      obtain ⟨r0, hr0, ⟨e0, rfl⟩ | ⟨-, rfl⟩⟩ := mem_changeSeat hr'
      · exact ⟨r0, hr0, by rw [only hr0 e0]; exact tame⟩
      · exact ⟨r', hr0, .refl _⟩
    · intro r0 hr0
      by_cases e0 : r0.number = n
      · exact ⟨f r0, mem_changeSeat_self hr0 e0, by rw [only hr0 e0]; exact tame⟩
      · exact ⟨r0, mem_changeSeat_other hr0 e0, .refl _⟩
  | bind n r f st h found vacant number bound free => exact o.bind found vacant number bound free
  | contest r st b a runs found bound place free => exact o.contest runs found bound place free
  | settle n a f found number contested holder => exact o.settle found number contested holder

/-! ## The changes -/

theorem seatTable_rising (block : Option SeatBlock) : ((seatTable block).map (·.number)).Pairwise (· < ·) := by
  unfold seatTable
  split
  · exact .nil
  · rw [List.map_map]
    exact List.pairwise_map.mpr (List.pairwise_lt_range.imp fun h => Nat.add_lt_add_left h _)

theorem seatTable_vacant {block : Option SeatBlock} {r : SeatRecord} (h : r ∈ seatTable block) : r.state = .vacant := by
  unfold seatTable at h
  split at h
  · cases h
  · obtain ⟨i, -, rfl⟩ := List.mem_map.mp h
    rfl

/-- VACANT seats in rising order, with no contest and no pending token. -/
theorem SeatValidator.vacant_ordered (running : Prop) {v : SeatValidator} (rising : (v.seats.map (·.number)).Pairwise (· < ·))
    (vacant : ∀ r ∈ v.seats, r.state = .vacant) (authority : v.authority = []) (pending : v.pendingTokens = []) :
    v.Ordered running where
  rising := rising
  authority_places := by simp [authority]
  authority_apart := by simp [authority]
  pending_places := by simp [pending]
  pending_apart := by simp [pending]
  contested n := by
    rw [authority]
    constructor
    · rintro ⟨r, hr, -, contested⟩
      rw [vacant r hr] at contested
      cases contested
    · rintro ⟨a, ha, -⟩
      cases ha
  unique := by
    rintro n m x (⟨r, hr, -, h, holds, -⟩ | ⟨a, ha, -⟩)
    · rw [vacant r hr] at holds
      cases holds
    · rw [authority] at ha
      cases ha
  idle _ := ⟨authority, pending⟩

theorem State.readStrap_sv {s : State} (fresh : s.sv = SeatValidator.initial) (strap : BitVec 5) :
    (s.readStrap strap).sv = SeatValidator.initial := by
  unfold State.readStrap
  split
  · exact fresh
  · change { s.sv with seats := [] } = SeatValidator.initial
    rw [fresh]
    rfl

theorem Move.keeps_seatsOrdered {s t : State} (h : s.seatsOrdered) (m : Move s t) : t.seatsOrdered := by
  have sl := m.keeps.1
  rw [State.seatsOrdered_iff] at h ⊢
  rw [sl]
  cases m with
  | seat m => exact m.keeps_ordered h
  | drawn => exact h
  | radio m => rw [m.frame]; exact h
  | counter m => rw [m.frame.1]; exact h
  | bus m => rw [m.frame.1]; exact h
  | peer m => rw [m.frame.1]; exact h
  | client m => rw [m.frame]; exact h
  | listener m => rw [m.frame]; exact h
  | replay m => rw [m.frame]; exact h

theorem State.configured_seatsOrdered {s : State} (h : s.seatsOrdered) (starting : s.sl.nodeState = .starting)
    (p : Option Params) : (s.configured p).seatsOrdered := by
  rw [State.seatsOrdered_iff] at h ⊢
  obtain ⟨authority, pending⟩ := h.idle (by rw [starting]; exact nofun)
  exact SeatValidator.vacant_ordered _ (seatTable_rising _) (fun _ => seatTable_vacant) authority pending

theorem State.countListening_running (s : State) (h : s.countListening.sl.nodeState ≠ .running) :
    s.sl.nodeState ≠ .running := by
  unfold State.countListening at h
  split at h
  · rename_i listening
    rw [listening]
    exact nofun
  · exact h

theorem Change.keeps_seatsOrdered {s t : State} (h : s.seatsOrdered) (change : Change s t) : t.seatsOrdered := by
  cases change with
  | move m => exact m.keeps_seatsOrdered h
  | time dt => exact h
  | commands rest => exact h
  | reset quiet ready strap =>
    rw [State.seatsOrdered_iff, State.readStrap_sv rfl]
    exact SeatValidator.vacant_ordered _ .nil nofun rfl rfl
  | listen p starting =>
    have configured := (State.seatsOrdered_iff _).mp (State.configured_seatsOrdered h starting p)
    exact (State.seatsOrdered_iff _).mpr (by simpa using configured)
  | crowded p starting => exact State.configured_seatsOrdered h starting p
  | boundary next due => exact h
  | listened =>
    rw [State.seatsOrdered_iff] at h ⊢
    exact { (by simpa using h : s.countListening.sv.Ordered (s.sl.nodeState = .running)) with
      idle := fun stops => by simpa using h.idle (s.countListening_running stops) }

end Sys2Proof.Machine

open Sys2Proof Sys2Proof.Machine

/-- Settles O60: the claims on seats stay unique because a binding or a contest takes a serial that is free for its seat (R74). -/
theorem stepKeepsSeatsOrdered : Obligations.StepKeepsSeatsOrdered := by
  unfold Obligations.StepKeepsSeatsOrdered
  intro s t h next
  exact step_keeps (P := State.seatsOrdered) (fun _ _ h c => c.keeps_seatsOrdered h) h next

end

section
/-! SUPPORT. The row bus's queues, the peer table and the notices: what each change keeps of their order (R139, R147, R153, R157,
R160, R168). -/

namespace Sys2Proof.Machine

/-! ## What the transmitter's operations do to its queue -/

theorem State.startSending_line (s : State) :
    s.startSending.rbc.tx.hand = s.rbc.tx.hand ∧ s.startSending.rbc.tx.attempts = s.rbc.tx.attempts ∧
      s.startSending.rbc.txUrgent = s.rbc.txUrgent ∧ s.startSending.rbc.txNormal = s.rbc.txNormal ∧
      s.startSending.rbc.rxQueue = s.rbc.rxQueue := by
  unfold State.startSending
  split
  · rename_i f n since hand
    rw [hand]
    exact ⟨rfl, rfl, rfl, rfl, rfl⟩
  · exact ⟨rfl, rfl, rfl, rfl, rfl⟩

/-- What an accepted frame does to the queue: it joins the frames, and stands or makes another stand with its class. -/
structure RowBus.Accepts (b : RowBus) (f : TxFrame) (b' : RowBus) : Prop where
  frames : b'.frames.Perm (f :: b.frames)
  busy : b'.tx ≠ .idle
  urgent : ∀ g ∈ b'.txUrgent, g ∈ b.txUrgent ∨ g.urgent = true
  normal : ∀ g ∈ b'.txNormal, g ∈ b.txNormal ∨ g.urgent = false
  attempts : b'.tx.attempts = 0 ∨ b'.tx.attempts = b.tx.attempts
  received : b'.rxQueue = b.rxQueue

theorem Transmitter.hand_eq_none {t : Transmitter} : t.hand = none ↔ t = .idle := by
  cases t <;> simp [Transmitter.hand]

theorem RowBus.Accepts.of_line {b b' c : RowBus} {f : TxFrame} (h : b.Accepts f b') (hand : c.tx.hand = b'.tx.hand)
    (attempts : c.tx.attempts = b'.tx.attempts) (urgent : c.txUrgent = b'.txUrgent) (normal : c.txNormal = b'.txNormal)
    (received : c.rxQueue = b'.rxQueue) : b.Accepts f c where
  frames := by rw [RowBus.frames, hand, urgent, normal]; exact h.frames
  busy := fun idle => h.busy (Transmitter.hand_eq_none.mp (hand.symm.trans (Transmitter.hand_eq_none.mpr idle)))
  urgent := by rw [urgent]; exact h.urgent
  normal := by rw [normal]; exact h.normal
  attempts := by rw [attempts]; exact h.attempts
  received := received.trans h.received

theorem State.wait_accepts (s : State) (f : TxFrame) (busy : s.rbc.tx ≠ .idle) : s.rbc.Accepts f (s.wait f).rbc := by
  unfold State.wait
  split
  · rename_i urgent
    refine ⟨?_, busy, fun g hg => ?_, fun g hg => .inl hg, .inr rfl, rfl⟩
    · refine .trans (.of_eq ?_) (List.perm_middle (l₁ := s.rbc.tx.hand.toList ++ s.rbc.txUrgent))
      simp [RowBus.frames]
    · exact (List.mem_append.mp hg).imp_right fun h => by rwa [List.mem_singleton.mp h]
  · rename_i normal
    refine ⟨?_, busy, fun g hg => .inl hg, fun g hg => ?_, .inr rfl, rfl⟩
    · refine .trans (.of_eq ?_) (List.perm_append_singleton f _)
      simp [RowBus.frames]
    · exact (List.mem_append.mp hg).imp_right fun h => by rw [List.mem_singleton.mp h]; simpa using normal

/-- An accepted frame joins the queue (R157); the order asks that nothing waits while the transmitter is IDLE. -/
theorem State.acceptFrame_accepts (s : State) (f : TxFrame)
    (idle : s.rbc.tx = .idle → s.rbc.txUrgent = [] ∧ s.rbc.txNormal = []) : s.rbc.Accepts f (s.acceptFrame f).rbc := by
  have reported : (s.reportAccepted f).rbc = s.rbc := by simp
  obtain ⟨free, e⟩ | ⟨g, since, hand, fUrgent, gNormal, e⟩ | ⟨busy, e⟩ := s.acceptFrame_cases f
  · rw [reported] at free e
    obtain ⟨noUrgent, noNormal⟩ := idle free
    rw [e, State.setRbc_rbc]
    refine ⟨?_, nofun, fun g hg => .inl hg, fun g hg => .inl hg, .inl rfl, rfl⟩
    simp [RowBus.frames, Transmitter.hand, free, noUrgent, noNormal]
  · rw [reported] at hand e
    have taken : s.rbc.Accepts f { s.rbc with tx := .defer f 0 since, txNormal := g :: s.rbc.txNormal } := by
      refine ⟨?_, nofun, fun g hg => .inl hg, fun x hx => ?_, .inl rfl, rfl⟩
      · rw [RowBus.frames, RowBus.frames, hand]
        refine .cons f ?_
        exact List.perm_middle (l₁ := s.rbc.txUrgent) (a := g)
      · exact (List.mem_cons.mp hx).symm.imp_right fun h => by rwa [h]
    rw [e]
    split
    · obtain ⟨hand', attempts', urgent', normal', received'⟩ := State.startSending_line
        ((s.reportAccepted f).setRbc { s.rbc with tx := .defer f 0 since, txNormal := g :: s.rbc.txNormal })
      exact taken.of_line hand' attempts' urgent' normal' received'
    · exact taken
  · rw [reported] at busy
    rw [e]
    have waits := (s.reportAccepted f).wait_accepts f (by rwa [reported])
    rwa [reported] at waits

/-! ## The queued flags -/

theorem State.setQueued_queued (s : State) (k j : AnnounceKind) (v : Bool) :
    ((s.setQueued k v).anu.buffer j).queued = if j = k then v else (s.anu.buffer j).queued := by
  simp only [State.setQueued, State.updateBuffer, State.setAnu_anu]
  split
  · rename_i same
    rw [same, Announcement.buffer_setBuffer_self]
  · rename_i other
    rw [Announcement.buffer_setBuffer_other _ _ other]

theorem State.setQueued_of_announcement (s : State) {f : TxFrame} {i : AnnounceKind} (body : f.body = .announcement i)
    (j : AnnounceKind) (v : Bool) :
    ((s.setQueued i v).anu.buffer j).queued = if f.body = .announcement j then v else (s.anu.buffer j).queued := by
  rw [State.setQueued_queued, body]
  simp only [TxBody.announcement.injEq, eq_comm]

theorem State.reportAccepted_queued (s : State) (f : TxFrame) (j : AnnounceKind) :
    ((s.reportAccepted f).anu.buffer j).queued = if f.body = .announcement j then true else (s.anu.buffer j).queued := by
  unfold State.reportAccepted
  split
  · rename_i body
    exact s.setQueued_of_announcement body j true
  · rename_i body
    simp [body]

theorem State.clearLost_queued (s : State) (f : TxFrame) (j : AnnounceKind) :
    ((s.clearLost f).anu.buffer j).queued = if f.body = .announcement j then false else (s.anu.buffer j).queued := by
  unfold State.clearLost
  split
  · rename_i body
    exact s.setQueued_of_announcement body j false
  · rename_i body
    exact s.setQueued_of_announcement body j false
  · rename_i body
    simp [body]

theorem State.reportCompletion_queued (s : State) (f : TxFrame) (j : AnnounceKind) :
    ((s.reportCompletion f).anu.buffer j).queued =
      if f.body = .announcement j then false else (s.anu.buffer j).queued := by
  unfold State.reportCompletion
  split
  · rename_i body
    exact s.setQueued_of_announcement body j false
  · rename_i body
    exact s.setQueued_of_announcement body j false
  · rename_i body
    simp [body]

/-! ## The order, in parts -/

/-- Each announcement kind has one frame among these exactly when its queued flag is set, and else none. -/
def Announcement.counted (a : Announcement) (frames : List TxFrame) : Prop :=
  ∀ k : AnnounceKind, frames.countP (fun f => f.body == .announcement k) = if (a.buffer k).queued then 1 else 0

/-- A frame more, whose flag was clear and is set. -/
theorem Announcement.counted.joined {a a' : Announcement} {frames frames' : List TxFrame} {f : TxFrame}
    (h : a.counted frames) (perm : frames'.Perm (f :: frames))
    (single : ∀ k, f.body = .announcement k → (a.buffer k).queued = false)
    (flags : ∀ k, (a'.buffer k).queued = if f.body = .announcement k then true else (a.buffer k).queued) :
    a'.counted frames' := by
  intro k
  rw [perm.countP_eq, List.countP_cons, h k, flags k]
  by_cases body : f.body = .announcement k
  · simp [body, single k body]
  · simp [body]

/-- A frame fewer, whose flag is cleared. -/
theorem Announcement.counted.left {a a' : Announcement} {frames frames' : List TxFrame} {f : TxFrame}
    (h : a.counted frames) (perm : frames.Perm (f :: frames'))
    (flags : ∀ k, (a'.buffer k).queued = if f.body = .announcement k then false else (a.buffer k).queued) :
    a'.counted frames' := by
  intro k
  have before := h k
  rw [perm.countP_eq, List.countP_cons] at before
  rw [flags k]
  by_cases body : f.body = .announcement k
  · simp only [body, beq_self_eq_true, if_true] at before
    simp only [body, if_true, Bool.false_eq_true, if_false]
    split at before <;> omega
  · simpa [body] using before

theorem Announcement.counted.same {a a' : Announcement} {frames : List TxFrame} (h : a.counted frames)
    (flags : ∀ k, (a'.buffer k).queued = (a.buffer k).queued) : a'.counted frames :=
  fun k => by rw [h k, flags k]

/-- The transmit and receive queues' part of the order. -/
structure RowBus.Ordered (b : RowBus) : Prop where
  places : b.frames.length ≤ txPlaces
  received : b.rxQueue.length ≤ rxPlaces
  idle : b.tx = .idle → b.txUrgent = [] ∧ b.txNormal = []
  urgent : ∀ f ∈ b.txUrgent, f.urgent = true
  normal : ∀ f ∈ b.txNormal, f.urgent = false
  attempts : b.tx.attempts < lastAttempt

theorem State.busOrdered_iff (s : State) :
    s.busOrdered ↔ s.rbc.Ordered ∧ s.anu.counted s.rbc.frames ∧
      (s.sl.nodeState = .starting ∨ s.sl.nodeState = .silent → s.rbc.tx = .idle) := by
  constructor
  · rintro ⟨places, received, idle, urgent, normal, counted, attempts, quiet⟩
    exact ⟨⟨places, received, idle, urgent, normal, attempts⟩, counted, quiet⟩
  · rintro ⟨⟨places, received, idle, urgent, normal, attempts⟩, counted, quiet⟩
    exact ⟨places, received, idle, urgent, normal, counted, attempts, quiet⟩

theorem State.busOrdered.of_same {s t : State} (h : s.busOrdered) (sl : t.sl = s.sl) (rbc : t.rbc = s.rbc)
    (flags : ∀ k, (t.anu.buffer k).queued = (s.anu.buffer k).queued) : t.busOrdered := by
  rw [State.busOrdered_iff] at h ⊢
  obtain ⟨ordered, counted, quiet⟩ := h
  rw [sl, rbc]
  exact ⟨ordered, counted.same flags, quiet⟩

/-! ## The moves of the bus -/

theorem RowBus.Ordered.accepts {b b' : RowBus} {f : TxFrame} (o : b.Ordered) (m : b.Accepts f b')
    (room : b.frames.length < txPlaces) : b'.Ordered where
  places := by rw [m.frames.length_eq]; exact room
  received := by rw [m.received]; exact o.received
  idle idle := absurd idle m.busy
  urgent g hg := (m.urgent g hg).elim (o.urgent g) fun h => h
  normal g hg := (m.normal g hg).elim (o.normal g) fun h => h
  attempts := by
    obtain h | h := m.attempts
    · rw [h]; decide
    · rw [h]; exact o.attempts

theorem State.accept_busOrdered {s : State} {f : TxFrame} (ordered : s.rbc.Ordered) (counted : s.anu.counted s.rbc.frames)
    (transmits : s.transmits) (room : s.txCount < txPlaces)
    (single : ∀ k, f.body = .announcement k → (s.anu.buffer k).queued = false) : (s.acceptFrame f).busOrdered := by
  have accepts := s.acceptFrame_accepts f ordered.idle
  rw [State.busOrdered_iff]
  refine ⟨ordered.accepts accepts room, counted.joined accepts.frames single fun k => ?_, fun quiet => ?_⟩
  · rw [State.acceptFrame_anu]
    exact s.reportAccepted_queued f k
  · exact absurd (by simpa [or_comm] using quiet) transmits

/-- The frame in hand has left, and its flag is clear: the next frame is taken. -/
theorem State.nextFrame_busOrdered {s : State} (ordered : s.rbc.Ordered)
    (counted : s.anu.counted (s.rbc.txUrgent ++ s.rbc.txNormal))
    (room : (s.rbc.txUrgent ++ s.rbc.txNormal).length ≤ txPlaces)
    (speaks : ¬ (s.sl.nodeState = .starting ∨ s.sl.nodeState = .silent)) : s.nextFrame.busOrdered := by
  have taken (b : RowBus) (e : s.nextFrame = s.setRbc b) (frames : b.frames = s.rbc.txUrgent ++ s.rbc.txNormal)
      (received : b.rxQueue = s.rbc.rxQueue) (urgent : b.txUrgent ⊆ s.rbc.txUrgent) (normal : b.txNormal ⊆ s.rbc.txNormal)
      (attempts : b.tx.attempts = 0) (idle : b.tx = .idle → b.txUrgent = [] ∧ b.txNormal = []) : s.nextFrame.busOrdered := by
    rw [e, State.busOrdered_iff]
    refine ⟨⟨by rw [State.setRbc_rbc, frames]; exact room, by rw [State.setRbc_rbc, received]; exact ordered.received, idle,
      fun g hg => ordered.urgent g (urgent hg), fun g hg => ordered.normal g (normal hg),
      by rw [State.setRbc_rbc, attempts]; decide⟩, by rw [State.setRbc_rbc, frames]; exact counted, fun quiet => absurd quiet speaks⟩
  match urgent : s.rbc.txUrgent, normal : s.rbc.txNormal with
  | f :: rest, normals =>
    refine taken { s.rbc with tx := .defer f 0 s.now, txUrgent := rest } (by simp only [State.nextFrame, urgent]) ?_ rfl ?_ ?_
      rfl nofun
    · simp [RowBus.frames, Transmitter.hand, urgent]
    · rw [urgent]; exact List.subset_cons_self _ _
    · exact fun _ h => h
  | [], f :: rest =>
    refine taken { s.rbc with tx := .defer f 0 s.now, txNormal := rest } (by simp only [State.nextFrame, urgent, normal]) ?_ rfl
      ?_ ?_ rfl nofun
    · simp [RowBus.frames, Transmitter.hand, urgent, normal]
    · exact fun _ h => h
    · rw [normal]; exact List.subset_cons_self _ _
  | [], [] =>
    refine taken { s.rbc with tx := .idle } (by simp only [State.nextFrame, urgent, normal]) ?_ rfl (fun _ h => h)
      (fun _ h => h) rfl fun _ => ⟨urgent, normal⟩
    simp [RowBus.frames, Transmitter.hand, urgent, normal]

/-- The frame in hand is sent or lost. -/
theorem State.busOrdered.handLeft {s t : State} {f : TxFrame} {n : Nat} {wire : List Byte} (h : s.busOrdered)
    (attempt : s.rbc.tx = .sending f n wire) (sl : t.sl = s.sl) (urgent : t.rbc.txUrgent = s.rbc.txUrgent)
    (normal : t.rbc.txNormal = s.rbc.txNormal) (tx : t.rbc.tx = s.rbc.tx) (received : t.rbc.rxQueue = s.rbc.rxQueue)
    (flags : ∀ k, (t.anu.buffer k).queued = if f.body = .announcement k then false else (s.anu.buffer k).queued) :
    t.nextFrame.busOrdered := by
  rw [State.busOrdered_iff] at h
  obtain ⟨ordered, counted, quiet⟩ := h
  have frames : s.rbc.frames = f :: (s.rbc.txUrgent ++ s.rbc.txNormal) := by
    simp [RowBus.frames, Transmitter.hand, attempt]
  have same : t.rbc.frames = s.rbc.frames := by rw [RowBus.frames, RowBus.frames, urgent, normal, tx]
  refine State.nextFrame_busOrdered ⟨same ▸ ordered.places, received ▸ ordered.received, ?_, urgent ▸ ordered.urgent,
    normal ▸ ordered.normal, tx ▸ ordered.attempts⟩ ?_ ?_ fun silent => ?_
  · rw [tx, attempt]
    exact nofun
  · rw [urgent, normal]
    exact counted.left (.of_eq frames) flags
  · rw [urgent, normal]
    have := ordered.places
    rw [frames, List.length_cons] at this
    omega
  · rw [sl] at silent
    have idle := quiet silent
    rw [attempt] at idle
    cases idle

theorem State.busOrdered.evicted {s : State} (h : s.busOrdered) {front : List TxFrame} {old : TxFrame}
    (waits : s.rbc.txNormal = front ++ [old]) :
    let t := (s.setRbc { s.rbc with txNormal := front }).clearLost old
    t.rbc.Ordered ∧ t.anu.counted t.rbc.frames ∧ t.txCount < txPlaces := by
  intro t
  rw [State.busOrdered_iff] at h
  obtain ⟨ordered, counted, quiet⟩ := h
  have rbc : t.rbc = { s.rbc with txNormal := front } := by simp [t]
  have frames : s.rbc.frames.Perm (old :: t.rbc.frames) := by
    rw [rbc, RowBus.frames, RowBus.frames, waits, ← List.append_assoc]
    exact List.perm_append_singleton _ _
  have count : t.rbc.frames.length < txPlaces := by
    have := ordered.places
    rw [frames.length_eq, List.length_cons] at this
    omega
  refine ⟨⟨count.le, ?_, fun idle => ?_, ?_, fun g hg => ?_, ?_⟩, ?_, count⟩
  · rw [rbc]; exact ordered.received
  · rw [rbc] at idle
    have := (ordered.idle idle).2
    rw [waits] at this
    exact absurd this (by simp)
  · rw [rbc]; exact ordered.urgent
  · rw [rbc] at hg
    exact ordered.normal g (by rw [waits]; exact List.mem_append_left _ hg)
  · rw [rbc]; exact ordered.attempts
  · exact counted.left frames fun k => State.clearLost_queued _ old k

theorem BusMove.keeps_busOrdered {s t : State} (h : s.busOrdered) (m : BusMove s t) : t.busOrdered := by
  have parts := (State.busOrdered_iff s).mp h
  obtain ⟨ordered, counted, quiet⟩ := parts
  cases m with
  | accept f transmits room single => exact State.accept_busOrdered ordered counted transmits room single
  | exchange f old front transmits urgent waits =>
    obtain ⟨ordered', counted', room⟩ := h.evicted waits
    refine State.accept_busOrdered ordered' counted' (by simpa [State.transmits] using transmits) room fun k body => ?_
    rw [TxFrame.urgent, body] at urgent
    cases urgent
  | lose f n wire attempt => exact h.handLeft attempt (by simp) (by simp) (by simp) (by simp) (by simp) (s.clearLost_queued f)
  | complete f n wire k attempt =>
    refine h.handLeft attempt (by simp) ?_ ?_ ?_ ?_ fun j => ?_
    iterate 4 simp [State.quieted]
    rw [(State.quieted_frame _).2.2.2.2.2.2.2.1, State.count_queued, State.reportCompletion_queued]
  | line b hand attempts urgent normal received =>
    have frames : b.frames = s.rbc.frames := by rw [RowBus.frames, RowBus.frames, hand, urgent, normal]
    have idle : b.tx = .idle ↔ s.rbc.tx = .idle := by rw [← Transmitter.hand_eq_none, hand, Transmitter.hand_eq_none]
    rw [State.busOrdered_iff]
    refine ⟨⟨frames ▸ ordered.places, received ▸ ordered.received, fun e => ?_, urgent ▸ ordered.urgent,
      normal ▸ ordered.normal, attempts.elim (fun h => h) fun e => e ▸ ordered.attempts⟩, frames ▸ counted,
      fun silent => idle.mpr (quiet silent)⟩
    rw [State.setRbc_rbc, urgent, normal]
    exact ordered.idle (idle.mp e)
  | store f place foreign =>
    exact (State.busOrdered_iff _).mpr ⟨{ ordered with received := by simpa using place }, counted, quiet⟩
  | release b =>
    have fewer : (s.rbc.rxQueue.eraseP (fun f => f.block == some b)).length ≤ rxPlaces :=
      List.eraseP_sublist.length_le.trans ordered.received
    exact (State.busOrdered_iff _).mpr ⟨{ ordered with received := fewer }, counted, quiet⟩

theorem Move.keeps_busOrdered {s t : State} (h : s.busOrdered) (m : Move s t) : t.busOrdered := by
  have sl := m.keeps.1
  cases m with
  | bus m => exact m.keeps_busOrdered h
  | drawn => exact h
  | radio m => rw [m.frame]; exact h
  | counter m =>
    obtain ⟨e, -, flags⟩ := m.frame
    exact h.of_same sl (by rw [e]; rfl) flags
  | peer m =>
    obtain ⟨e, -, flags⟩ := m.frame
    exact h.of_same sl (by rw [e]; rfl) flags
  | seat m => exact h
  | client m => rw [m.frame]; exact h
  | listener m => rw [m.frame]; exact h
  | replay m => rw [m.frame]; exact h

/-- An empty row bus is in order. -/
theorem State.busOrdered_of_initial {s : State} {quiet : Option Time} (rbc : s.rbc = RowBus.initial quiet)
    (flags : ∀ k, (s.anu.buffer k).queued = false) : s.busOrdered := by
  rw [State.busOrdered_iff, rbc]
  refine ⟨⟨Nat.zero_le _, Nat.zero_le _, fun _ => ⟨rfl, rfl⟩, nofun, nofun, Nat.zero_lt_succ _⟩, fun k => ?_, fun _ => rfl⟩
  rw [flags k]
  rfl

theorem State.readStrap_anu {s : State} (fresh : s.anu = Announcement.initial) (strap : BitVec 5) :
    ∃ next, (s.readStrap strap).anu = { Announcement.initial with nextBoundary := next } := by
  unfold State.readStrap
  split
  · exact ⟨none, fresh⟩
  · refine ⟨some (s.now + millis 100), ?_⟩
    change { s.anu with nextBoundary := some (s.now + millis 100) } = _
    rw [fresh]

theorem State.configured_busOrdered {s : State} (h : s.busOrdered) (starting : s.sl.nodeState = .starting)
    (p : Option Params) : (s.configured p).busOrdered := by
  rw [State.busOrdered_iff] at h ⊢
  exact ⟨h.1, h.2.1, fun _ => h.2.2 (.inl starting)⟩

theorem Change.keeps_busOrdered {s t : State} (h : s.busOrdered) (change : Change s t) : t.busOrdered := by
  cases change with
  | move m => exact m.keeps_busOrdered h
  | time dt => exact h
  | commands rest => exact h
  | reset quiet ready strap =>
    obtain ⟨next, anu⟩ := State.readStrap_anu (s := s.powerOn quiet ready) rfl strap
    exact State.busOrdered_of_initial (quiet := quiet) (by simp; rfl) fun k => by rw [anu]; cases k <;> rfl
  | listen p starting configured room =>
    obtain ⟨ordered, counted, quiet⟩ := (State.busOrdered_iff _).mp (State.configured_busOrdered h starting p)
    refine State.accept_busOrdered ordered counted (by rintro (h | h) <;> cases h) room fun k _ => ?_
    have idle := ((State.busOrdered_iff s).mp h).2.2 (.inl starting)
    obtain ⟨noUrgent, noNormal⟩ := ((State.busOrdered_iff s).mp h).1.idle idle
    have empty := counted k
    simp only [RowBus.frames, State.configured_frame, idle, noUrgent, noNormal] at empty
    by_contra queued
    rw [if_pos (by simpa using queued)] at empty
    cases empty
  | crowded p starting => exact State.configured_busOrdered h starting p
  | boundary next due => exact (State.busOrdered.of_same h rfl rfl fun k => by cases k <;> rfl)
  | listened =>
    rw [State.busOrdered_iff] at h ⊢
    obtain ⟨ordered, counted, quiet⟩ := h
    refine ⟨by simpa using ordered, by simpa using counted, fun silent => ?_⟩
    rw [(s.countListening_frame).2.2.2.2.2.2.2.2.1]
    refine quiet ?_
    unfold State.countListening at silent
    split at silent
    · simp only [State.setSl_sl] at silent
      split at silent <;> rcases silent with h | h <;> cases h
    · exact silent

/-! ## Peers and notices -/

theorem State.acceptFrame_rxQueue (s : State) (f : TxFrame) : (s.acceptFrame f).rbc.rxQueue = s.rbc.rxQueue := by
  have reported : (s.reportAccepted f).rbc = s.rbc := by simp
  obtain ⟨-, e⟩ | ⟨g, since, -, -, -, e⟩ | ⟨-, e⟩ := s.acceptFrame_cases f
  · rw [e, reported]; rfl
  · rw [e]
    split
    · rw [(State.startSending_line _).2.2.2.2, State.setRbc_rbc, reported]
    · rw [State.setRbc_rbc, reported]
  · rw [e, State.wait, reported]
    split <;> rfl

/-- What waits in the receive queue waited there or is from another station. -/
theorem BusMove.received {s t : State} (m : BusMove s t) (f : RxFrame) (h : f ∈ t.rbc.rxQueue) :
    f ∈ s.rbc.rxQueue ∨ s.isOwn f.source = false := by
  have next (u : State) : u.nextFrame.rbc.rxQueue = u.rbc.rxQueue := by
    unfold State.nextFrame
    split <;> rfl
  cases m with
  | accept x => exact .inl (by rwa [State.acceptFrame_rxQueue] at h)
  | exchange x old front => exact .inl (by simpa [State.acceptFrame_rxQueue] using h)
  | lose x n wire => exact .inl (by simpa [next] using h)
  | complete x n wire k => exact .inl (by simpa [next, State.quieted] using h)
  | line b hand attempts urgent normal received => exact .inl (by simpa [received] using h)
  | store x place foreign => exact (List.mem_append.mp h).imp_right fun e => by rwa [List.mem_singleton.mp e]
  | release b => exact .inl (List.mem_of_mem_eraseP h)

theorem State.isOwn_eq_false {s : State} {a : Station} : s.isOwn a = false ↔ s.sl.ownAddress ≠ some a := by
  simp [State.isOwn]

theorem State.peersOrdered.of_same {s t : State} (h : s.peersOrdered) (sl : t.sl = s.sl) (anu : s.anu.SameLists t.anu)
    (received : ∀ f ∈ t.rbc.rxQueue, f ∈ s.rbc.rxQueue ∨ s.isOwn f.source = false) : t.peersOrdered := by
  obtain ⟨rising, peers, foreign, places, apart, silent⟩ := h
  obtain ⟨samePeers, sameNotices, -⟩ := anu
  unfold State.peersOrdered
  rw [samePeers, sameNotices, sl]
  exact ⟨rising, peers, fun f hf => (received f hf).elim (foreign f) State.isOwn_eq_false.mp, places, apart, silent⟩

theorem PeerMove.keeps_peersOrdered {s t : State} (h : s.peersOrdered) (m : PeerMove s t) : t.peersOrdered := by
  have sent := h
  obtain ⟨rising, peers, foreign, places, apart, silent⟩ := h
  cases m with
  | edit g keeps =>
    refine ⟨?_, fun q hq => ?_, foreign, places, apart, silent⟩
    · rw [State.setAnu_anu, List.pairwise_map, List.pairwise_filterMap]
      refine (List.pairwise_map.mp rising).imp fun {p q} less p' hp q' hq => ?_
      rw [(keeps p p' hp).1, (keeps q q' hq).1]
      exact less
    · obtain ⟨p, hp, e⟩ := List.mem_filterMap.mp hq
      obtain ⟨station, ordered⟩ := keeps p q e
      rw [station]
      exact ⟨(peers p hp).1, ordered (peers p hp).2⟩
  | put p heard ordered =>
    refine ⟨putBy_sorted p rising, fun q hq => ?_, foreign, places, apart, silent⟩
    obtain rfl | hq := mem_putBy hq
    · obtain ⟨f, hf, source⟩ := heard
      exact ⟨source ▸ foreign f hf, ordered fun x found => (peers x (List.mem_of_find?_eq_some found)).2⟩
    · exact peers q hq
  | arm k n =>
    obtain e | ⟨speaks, new, place, e⟩ := s.armNotice_cases k n <;> rw [e]
    · exact sent
    · refine ⟨rising, peers, foreign, by simpa using place, ?_, fun e => absurd e speaks⟩
      rw [State.setAnu_anu, List.nodup_append]
      exact ⟨apart, List.nodup_singleton _, fun x hx y hy e => new (List.mem_singleton.mp hy ▸ e ▸ hx)⟩
  | sent n =>
    refine ⟨rising, peers, foreign, (List.length_filter_le _ _).trans places, apart.filter _, fun e => ?_⟩
    rw [State.setAnu_anu, silent e]
    rfl
  | flags a samePeers sameNotices boundary => exact sent.of_same rfl ⟨samePeers, sameNotices, boundary⟩ fun f hf => .inl hf

theorem Move.keeps_peersOrdered {s t : State} (h : s.peersOrdered) (m : Move s t) : t.peersOrdered := by
  have sl := m.keeps.1
  cases m with
  | bus m => exact h.of_same sl m.frame.2 m.received
  | peer m => exact m.keeps_peersOrdered h
  | drawn => exact h
  | radio m => rw [m.frame]; exact h
  | counter m =>
    obtain ⟨e, lists, -⟩ := m.frame
    exact h.of_same sl lists fun f hf => .inl (by rw [e] at hf; exact hf)
  | seat m => exact h
  | client m => rw [m.frame]; exact h
  | listener m => rw [m.frame]; exact h
  | replay m => rw [m.frame]; exact h

theorem State.configured_peersOrdered {s : State} (h : s.peersOrdered) (p : Option Params) : (s.configured p).peersOrdered := by
  obtain ⟨rising, peers, foreign, places, apart, -⟩ := h
  exact ⟨rising, peers, foreign, places, apart, nofun⟩

theorem State.countListening_sl (s : State) :
    s.countListening.sl.ownAddress = s.sl.ownAddress ∧
      (s.countListening.sl.nodeState = .silent → s.sl.nodeState = .silent) := by
  unfold State.countListening
  split
  · refine ⟨rfl, fun silent => ?_⟩
    simp only [State.setSl_sl] at silent
    split at silent <;> cases silent
  · exact ⟨rfl, fun h => h⟩

theorem Change.keeps_peersOrdered {s t : State} (h : s.peersOrdered) (change : Change s t) : t.peersOrdered := by
  cases change with
  | move m => exact m.keeps_peersOrdered h
  | time dt => exact h
  | commands rest => exact h
  | reset quiet ready strap =>
    obtain ⟨next, anu⟩ := State.readStrap_anu (s := s.powerOn quiet ready) rfl strap
    unfold State.peersOrdered
    rw [anu, (State.readStrap_frame _ strap).2.2.2.2.2.1]
    exact ⟨.nil, nofun, nofun, Nat.zero_le _, .nil, fun _ => rfl⟩
  | listen p starting configured room =>
    refine (State.configured_peersOrdered h p).of_same (by simp) (State.acceptFrame_lists _ _) fun f hf => .inl ?_
    rwa [State.acceptFrame_rxQueue] at hf
  | crowded p starting => exact State.configured_peersOrdered h p
  | boundary next due => exact h
  | listened =>
    obtain ⟨rising, peers, foreign, places, apart, silent⟩ := h
    obtain ⟨own, stays⟩ := s.countListening_sl
    have frame := s.countListening_frame
    unfold State.peersOrdered
    rw [own, frame.2.2.2.2.2.2.1, frame.2.2.2.2.2.2.2.2.1]
    exact ⟨rising, peers, foreign, places, apart, fun e => silent (stays e)⟩

end Sys2Proof.Machine

open Sys2Proof Sys2Proof.Machine

/-- Settles O56: a frame joins the queue with its flag set and leaves it with the flag cleared, and peers are only those heard. -/
theorem stepKeepsBusOrdered : Obligations.StepKeepsBusOrdered := by
  unfold Obligations.StepKeepsBusOrdered
  constructor
  · intro s t h next
    exact step_keeps (P := State.busOrdered) (fun _ _ h c => c.keeps_busOrdered h) h next
  · intro s t h next
    exact step_keeps (P := State.peersOrdered) (fun _ _ h c => c.keeps_peersOrdered h) h next

end

section
/-! SUPPORT. The client table and the sightings: what each change keeps of their order (R1, R2, R3, R24, R28, R38). -/

namespace Sys2Proof.Machine

/-! ## The lists after an operation -/

/-- A new item takes its place among the others. -/
theorem putBy_perm_new {α : Type} {key : α → Nat} {x : α} {l : List α} (h : ∀ y ∈ l, key y ≠ key x) :
    (putBy key x l).Perm (x :: l) := by
  induction l with
  | nil => exact .refl _
  | cons z zs ih =>
    simp only [putBy]
    split
    · exact .refl _
    · rw [if_neg fun e => h z List.mem_cons_self e.symm]
      exact ((ih fun y hy => h y (List.mem_cons_of_mem _ hy)).cons z).trans (.swap x z zs)

theorem putBy_length_le {α : Type} (key : α → Nat) (x : α) (l : List α) : (putBy key x l).length ≤ l.length + 1 := by
  induction l with
  | nil => simp [putBy]
  | cons z zs ih =>
    simp only [putBy]
    split
    · rfl
    · split
      · simp
      · simpa using ih

theorem sublist_of_eq {α : Type} {l l' : List α} (h : l = l') : l.Sublist l' := h ▸ .refl _

/-- At most one item has a key, so a change to it adds at most one to a count. -/
theorem countP_change_le {α κ : Type} [BEq κ] [LawfulBEq κ] {key : α → κ} {l : List α} (apart : (l.map key).Nodup) (k : κ)
    (f : α → α) (p : α → Bool) : (l.map (fun x => if key x == k then f x else x)).countP p ≤ l.countP p + 1 := by
  induction l with
  | nil => simp
  | cons x xs ih =>
    obtain ⟨new, apart⟩ := List.nodup_cons.mp apart
    by_cases same : key x = k
    · have rest : xs.map (fun x => if key x == k then f x else x) = xs := by
        refine (List.map_congr_left fun y hy => if_neg ?_).trans (List.map_id _)
        intro e
        exact new (List.mem_map.mpr ⟨y, hy, (eq_of_beq e).trans same.symm⟩)
      rw [List.map_cons, rest, List.countP_cons, List.countP_cons]
      split <;> split <;> omega
    · rw [List.map_cons, if_neg (by simpa using same), List.countP_cons, List.countP_cons]
      have := ih apart
      omega

theorem State.removeEntry_au (s : State) (c : ClientId) :
    (s.removeEntry c).au = { s.au with clients := s.au.clients.filter (fun x => x.id != c) } := by
  unfold State.removeEntry
  split
  · rename_i none
    have absent : ∀ e ∈ s.au.clients, e.id ≠ c := by simpa [State.findEntry] using none
    rw [List.filter_eq_self.mpr fun e he => by simpa using absent e he]
  · split
    · rw [State.foldl_lowerCount]
      rfl
    · rfl

@[simp] theorem State.insertSighting_clients (s : State) (g : Sighting) : (s.insertSighting g).au.clients = s.au.clients := by
  unfold State.insertSighting
  split
  · rfl
  · split <;> rfl

theorem State.createEntry_clients (s : State) (e : ClientEntry) :
    ∃ f : ClientEntry → ClientEntry, (∀ x, f x = x ∧ x.id ≠ e.id ∨
        x.id = e.id ∧ ∃ t : State, f x = { x with score := t.scoreOf x }) ∧
      (s.createEntry e).au.clients = (putBy (fun x => x.id.toNat) e s.au.clients).map f := by
  refine ⟨_, fun x => ?_, rfl⟩
  by_cases same : x.id = e.id
  · exact .inr ⟨same, _, if_pos (by simpa using same)⟩
  · exact .inl ⟨if_neg (by simpa using same), same⟩

/-! ## The order, in parts -/

/-- The order of the client table and the sightings, under a limit. -/
structure Association.Ordered (a : Association) (limit : Nat) : Prop where
  clients_rising : (a.clients.map (·.id.toNat)).Pairwise (· < ·)
  sightings_rising : (a.sightings.map (·.id.toNat)).Pairwise (· < ·)
  apart : ∀ e ∈ a.clients, ∀ g ∈ a.sightings, e.id ≠ g.id
  room : a.clients.length ≤ limit
  places : a.sightings.length ≤ sightingPlaces
  entries : ∀ e ∈ a.clients, e.ordered
  signals : ∀ g ∈ a.sightings, -400 ≤ g.signal ∧ g.signal ≤ -80

theorem State.clientsOrdered_iff (s : State) :
    s.clientsOrdered ↔ s.au.Ordered s.par.limit ∧ s.par.limit ≤ 48 ∧ (s.sl.nodeState ≠ .running → s.au.clients = []) := by
  constructor
  · rintro ⟨rising, rising', apart, room, limit, places, idle, entries, signals⟩
    exact ⟨⟨rising, rising', apart, room, places, entries, signals⟩, limit, idle⟩
  · rintro ⟨⟨rising, rising', apart, room, places, entries, signals⟩, limit, idle⟩
    exact ⟨rising, rising', apart, room, limit, places, idle, entries, signals⟩

theorem Association.Ordered.ids_apart {a : Association} {limit : Nat} (o : a.Ordered limit) : (a.clients.map (·.id)).Nodup := by
  have := nodup_of_rising o.clients_rising
  rw [← Function.comp_def, ← List.map_map] at this
  exact this.of_map _

theorem State.eq_of_findEntry {s : State} (apart : (s.au.clients.map (·.id)).Nodup) {c : ClientId} {e x : ClientEntry}
    (found : s.findEntry c = some e) (hx : x ∈ s.au.clients) (id : x.id = c) : x = e :=
  eq_of_find apart found hx id

/-- Entries that were there, each in order. -/
theorem Association.Ordered.of_clients {a : Association} {limit : Nat} (o : a.Ordered limit) {l : List ClientEntry}
    (ids : (l.map (·.id)).Sublist (a.clients.map (·.id))) (entries : ∀ e ∈ l, e.ordered) :
    Association.Ordered { a with clients := l } limit where
  clients_rising := by
    have := o.clients_rising
    rw [← Function.comp_def, ← List.map_map] at this ⊢
    exact this.sublist (ids.map _)
  sightings_rising := o.sightings_rising
  apart e he g hg := by
    obtain ⟨x, hx, same⟩ := List.mem_map.mp (ids.subset (List.mem_map_of_mem (f := (·.id)) he))
    exact same ▸ o.apart x hx g hg
  room := by
    have := ids.length_le
    rw [List.length_map, List.length_map] at this
    exact this.trans o.room
  places := o.places
  entries := entries
  signals := o.signals

/-- Sightings of clients without an entry, in their places. -/
theorem Association.Ordered.of_sightings {a : Association} {limit : Nat} (o : a.Ordered limit) {l : List Sighting}
    (rising : (l.map (·.id.toNat)).Pairwise (· < ·)) (places : l.length ≤ sightingPlaces)
    (old : ∀ g ∈ l, (∃ g' ∈ a.sightings, g'.id = g.id) ∨ ∀ e ∈ a.clients, e.id ≠ g.id)
    (signals : ∀ g ∈ l, -400 ≤ g.signal ∧ g.signal ≤ -80) : Association.Ordered { a with sightings := l } limit where
  clients_rising := o.clients_rising
  sightings_rising := rising
  apart e he g hg := by
    obtain ⟨g', hg', same⟩ | absent := old g hg
    · exact same ▸ o.apart e he g' hg'
    · exact absent e he
  room := o.room
  places := places
  entries := o.entries
  signals := signals

theorem Association.Ordered.of_fewer_sightings {a : Association} {limit : Nat} (o : a.Ordered limit) {l : List Sighting}
    (fewer : l.Sublist a.sightings) : Association.Ordered { a with sightings := l } limit :=
  o.of_sightings (o.sightings_rising.sublist (fewer.map _)) (fewer.length_le.trans o.places)
    (fun g hg => .inl ⟨g, fewer.subset hg, rfl⟩) fun g hg => o.signals g (fewer.subset hg)

/-- A sighting in range of a client without an entry is put in a list with a free place. -/
theorem Association.Ordered.put_sighting {a : Association} {limit : Nat} (o : a.Ordered limit) {g : Sighting}
    (absent : ∀ e ∈ a.clients, e.id ≠ g.id) (signal : -400 ≤ g.signal ∧ g.signal ≤ -80)
    (room : a.sightings.length < sightingPlaces) :
    Association.Ordered { a with sightings := putBy (fun x => x.id.toNat) g a.sightings } limit := by
  refine o.of_sightings (putBy_sorted g o.sightings_rising) ?_ (fun x hx => ?_) fun x hx => ?_
  · exact (putBy_length_le _ _ _).trans room
  · obtain rfl | hx := mem_putBy hx
    · exact .inr absent
    · exact .inl ⟨x, hx, rfl⟩
  · obtain rfl | hx := mem_putBy hx
    · exact signal
    · exact o.signals x hx

theorem State.insertSighting_ordered {s : State} {limit : Nat} (o : s.au.Ordered limit) {g : Sighting}
    (absent : ∀ e ∈ s.au.clients, e.id ≠ g.id) (signal : -400 ≤ g.signal ∧ g.signal ≤ -80) :
    (s.insertSighting g).au.Ordered limit := by
  unfold State.insertSighting
  split
  · rename_i room
    exact o.put_sighting absent signal room
  · split
    · rename_i old oldest
      have old_mem : old ∈ s.au.sightings := (List.mem_filter.mp (minBy_spec oldest).1).1
      have fewer := o.of_fewer_sightings (List.filter_sublist (p := fun x => x.id != old.id))
      refine fewer.put_sighting absent signal (lt_of_lt_of_le ?_ o.places)
      exact List.length_filter_lt_length_iff_exists.mpr ⟨old, old_mem, by simp⟩
    · exact o

/-! ## The moves -/

theorem State.updateEntry_ids (s : State) (c : ClientId) {f : ClientEntry → ClientEntry} (id : ∀ x, (f x).id = x.id) :
    (s.updateEntry c f).au.clients.map (·.id) = s.au.clients.map (·.id) := by
  rw [State.updateEntry, State.setAu_au, List.map_map]
  refine List.map_congr_left fun x _ => ?_
  dsimp only [Function.comp]
  split
  · exact id x
  · rfl

/-- One entry changed, in order where it was: the table stays in order. -/
theorem State.updateEntry_ordered {s : State} {limit : Nat} (o : s.au.Ordered limit) {c : ClientId}
    {f : ClientEntry → ClientEntry} (id : ∀ x, (f x).id = x.id)
    (ordered : ∀ e, s.findEntry c = some e → e.ordered → (f e).ordered) : (s.updateEntry c f).au.Ordered limit := by
  refine o.of_clients (sublist_of_eq (s.updateEntry_ids c id)) fun x' hx' => ?_
  obtain ⟨x, hx, rfl⟩ := List.mem_map.mp hx'
  split
  · rename_i same
    have found : s.findEntry c = some x := by
      obtain ⟨e, found⟩ := Option.isSome_iff_exists.mp
        ((List.find?_isSome (p := fun e : ClientEntry => e.id == c)).mpr ⟨x, hx, same⟩)
      have : x = e := eq_of_find o.ids_apart found hx (eq_of_beq same)
      rw [this]
      exact found
    exact ordered x found (o.entries x hx)
  · exact o.entries x hx

theorem ClientEntry.ordered_withdrawn {e : ClientEntry} (h : e.ordered) (i : StreamId) :
    ClientEntry.ordered { e with subscriptions := e.subscriptions.filter (fun x => x != i) } := by
  obtain ⟨low, high, score, bindings, serials, count, apart, record⟩ := h
  exact ⟨low, high, score, bindings, serials, (List.length_filter_le _ _).trans count, apart.filter _, record⟩

theorem ClientEntry.maxSubscriptions_le {e : ClientEntry} (h : e.ordered) : e.maxSubscriptions ≤ 4 := by
  obtain ⟨-, -, -, -, -, -, -, record⟩ := h
  unfold ClientEntry.maxSubscriptions
  cases held : e.record with
  | none => decide
  | some r => exact (record r held).2

theorem ClientEntry.ordered_subscribed {e : ClientEntry} (h : e.ordered) {i : StreamId} (new : i ∉ e.subscriptions)
    (place : e.subscriptions.length < e.maxSubscriptions) :
    ClientEntry.ordered { e with subscriptions := e.subscriptions ++ [i] } := by
  have most := ClientEntry.maxSubscriptions_le h
  obtain ⟨low, high, score, bindings, serials, count, apart, record⟩ := h
  refine ⟨low, high, score, bindings, serials, ?_, ?_, record⟩
  · rw [List.length_append]
    exact (Nat.succ_le_of_lt place).trans most
  · exact List.nodup_append.mpr ⟨apart, List.nodup_singleton _, fun x hx y hy e => new (List.mem_singleton.mp hy ▸ e ▸ hx)⟩

theorem State.absent_of_findEntry {s : State} {c : ClientId} (h : s.findEntry c = none) : ∀ e ∈ s.au.clients, e.id ≠ c := by
  simpa [State.findEntry] using h

theorem State.createEntry_ordered {s : State} (o : s.au.Ordered s.par.limit) {e : ClientEntry} (new : Newcomer s e) :
    (s.createEntry e).au.Ordered s.par.limit := by
  have absent := State.absent_of_findEntry new.absent
  have key (x : ClientEntry) (hx : x ∈ s.au.clients) : x.id.toNat ≠ e.id.toNat := fun h =>
    absent x hx (BitVec.eq_of_toNat_eq h)
  have signal : -400 ≤ e.signal ∧ e.signal ≤ -80 := new.signal.elim (fun h => h) fun ⟨g, hg, same⟩ => same ▸ o.signals g hg
  obtain ⟨f, scored, clients⟩ := s.createEntry_clients e
  have id (x : ClientEntry) : (f x).id = x.id := by
    obtain ⟨same, -⟩ | ⟨-, t, same⟩ := scored x <;> rw [same]
  have mem {x : ClientEntry} (hx : x ∈ (s.createEntry e).au.clients) :
      ∃ y, x = f y ∧ (y = e ∨ y ∈ s.au.clients) := by
    rw [clients] at hx
    obtain ⟨y, hy, rfl⟩ := List.mem_map.mp hx
    exact ⟨y, rfl, mem_putBy hy⟩
  refine ⟨?_, ?_, ?_, ?_, ?_, ?_, ?_⟩
  · rw [clients, List.map_map]
    refine (congrArg (List.Pairwise (· < ·)) (List.map_congr_left fun x _ => ?_)).mpr (putBy_sorted e o.clients_rising)
    exact congrArg BitVec.toNat (id x)
  · exact o.sightings_rising.sublist (List.filter_sublist.map _)
  · intro x hx g hg
    obtain ⟨hg, other⟩ := List.mem_filter.mp hg
    obtain ⟨y, rfl, rfl | hy⟩ := mem hx
    · rw [id]
      exact fun h => (by simpa using other : g.id ≠ y.id) h.symm
    · rw [id]
      exact o.apart y hy g hg
  · rw [clients, List.length_map, putBy_length_new key]
    exact new.room
  · exact (List.length_filter_le _ _).trans o.places
  · intro x hx
    obtain ⟨y, rfl, rfl | hy⟩ := mem hx
    · obtain ⟨-, other⟩ | ⟨-, t, same⟩ := scored y
      · exact absurd rfl other
      · rw [same]
        exact ⟨signal.1, signal.2, State.scoreOf_le t signal.2, new.bindings.1, new.bindings.2, new.subscriptions.1,
          new.subscriptions.2, new.record⟩
    · obtain ⟨same, -⟩ | ⟨same, -⟩ := scored y
      · rw [same]
        exact o.entries y hy
      · exact absurd same (absent y hy)
  · exact fun g hg => o.signals g (List.mem_filter.mp hg).1

theorem ClientMove.keeps_ordered {s t : State} (o : s.au.Ordered s.par.limit) (m : ClientMove s t) :
    t.au.Ordered s.par.limit := by
  cases m with
  | edit f harmless =>
    have ids : (s.au.clients.map f).map (·.id) = s.au.clients.map (·.id) := by
      rw [List.map_map]
      exact List.map_congr_left fun e he => (harmless e he).id
    refine o.of_clients (sublist_of_eq ids) fun x hx => ?_
    obtain ⟨e, he, rfl⟩ := List.mem_map.mp hx
    exact (harmless e he).ordered (o.entries e he)
  | restate c e f found id harmless =>
    exact State.updateEntry_ordered o id fun x found' => by
      rw [found] at found'
      exact Option.some.inj found' ▸ harmless.ordered
  | grant c e peer expiry => exact State.updateEntry_ordered o (fun _ => rfl) fun _ _ h => h
  | roamReset =>
    exact (o.of_clients (List.filter_sublist.map _) fun e he => o.entries e (List.mem_filter.mp he).1).of_fewer_sightings
      (List.nil_sublist _)
  | create e new => exact State.createEntry_ordered o new
  | sight g absent signal => exact State.insertSighting_ordered o (State.absent_of_findEntry absent) signal
  | resight c f keeps =>
    refine o.of_sightings ?_ (by simpa using o.places) (fun x hx => ?_) fun x hx => ?_
    · rw [List.map_map]
      refine (congrArg (List.Pairwise (· < ·)) (List.map_congr_left fun g _ => ?_)).mpr o.sightings_rising
      dsimp only [Function.comp]
      split
      · exact congrArg BitVec.toNat (keeps g).1
      · rfl
    · obtain ⟨g, hg, rfl⟩ := List.mem_map.mp hx
      refine .inl ⟨g, hg, ?_⟩
      split
      · exact (keeps g).1.symm
      · rfl
    · obtain ⟨g, hg, rfl⟩ := List.mem_map.mp hx
      split
      · exact (keeps g).2 (o.signals g hg)
      · exact o.signals g hg
  | unsight c => exact o.of_fewer_sightings List.filter_sublist

theorem State.removeEntry_ordered {s : State} {limit : Nat} (o : s.au.Ordered limit) (c : ClientId) :
    (s.removeEntry c).au.Ordered limit := by
  rw [State.removeEntry_au]
  exact o.of_clients (List.filter_sublist.map _) fun e he => o.entries e (List.mem_filter.mp he).1

theorem ListenerMove.keeps_ordered {s t : State} {limit : Nat} (o : s.au.Ordered limit) (m : ListenerMove s t) :
    t.au.Ordered limit := by
  cases m with
  | remove c => exact State.removeEntry_ordered o c
  | endReservation e peer found =>
    have signal := o.entries e (State.findEntry_mem found)
    refine State.insertSighting_ordered (State.removeEntry_ordered o e.id) (fun x hx => ?_) ⟨signal.1, signal.2.1⟩
    rw [State.removeEntry_au] at hx
    simpa using (List.mem_filter.mp hx).2
  | withdraw l listens =>
    have fold (l : List (ClientId × StreamId)) (u : State) (o : u.au.Ordered limit) :
        (l.foldl State.withdrawn u).au.Ordered limit := by
      induction l generalizing u with
      | nil => exact o
      | cons p l ih =>
        exact ih _ (State.updateEntry_ordered o (fun _ => rfl) fun e _ h => ClientEntry.ordered_withdrawn h p.2)
    exact fold l s o
  | subscribe c i e v found counted new place =>
    refine State.updateEntry_ordered o (fun _ => rfl) fun x found' h => ?_
    rw [found] at found'
    cases found'
    exact ClientEntry.ordered_subscribed h new place

/-! ## Nobody in the table -/

theorem ClientMove.running {s t : State} (m : ClientMove s t) (empty : s.au.clients = []) :
    t.au.clients = [] ∨ s.sl.nodeState = .running := by
  cases m with
  | edit f => exact .inl (by simp [empty])
  | restate c e f => exact .inl (by simp [State.updateEntry, empty])
  | grant c e peer expiry => exact .inl (by simp [State.updateEntry, empty])
  | roamReset => exact .inl (by simp [empty])
  | create e new => exact .inr new.running
  | sight g => rw [State.insertSighting_clients]; exact .inl empty
  | resight c f => exact .inl empty
  | unsight c => exact .inl empty

theorem ListenerMove.ids_sublist {s t : State} (m : ListenerMove s t) :
    (t.au.clients.map (·.id)).Sublist (s.au.clients.map (·.id)) := by
  have removed (c : ClientId) : ((s.removeEntry c).au.clients.map (·.id)).Sublist (s.au.clients.map (·.id)) := by
    rw [State.removeEntry_au]
    exact List.filter_sublist.map _
  cases m with
  | remove c => exact removed c
  | endReservation e peer =>
    rw [State.endReservation, State.insertSighting_clients]
    exact removed e.id
  | withdraw l =>
    have fold (l : List (ClientId × StreamId)) (u : State) :
        (l.foldl State.withdrawn u).au.clients.map (·.id) = u.au.clients.map (·.id) := by
      induction l generalizing u with
      | nil => rfl
      | cons p l ih => exact (ih _).trans (u.updateEntry_ids p.1 fun _ => rfl)
    exact sublist_of_eq (fold l s)
  | subscribe c i => exact sublist_of_eq (s.updateEntry_ids c fun _ => rfl)

/-! ## The changes -/

theorem Move.keeps_clientsOrdered {s t : State} (h : s.clientsOrdered) (m : Move s t) : t.clientsOrdered := by
  have sl := m.keeps.1
  rw [State.clientsOrdered_iff] at h ⊢
  obtain ⟨ordered, limit, idle⟩ := h
  rw [State.par, sl]
  have same (au : t.au = s.au) :
      t.au.Ordered s.par.limit ∧ s.par.limit ≤ 48 ∧ (s.sl.nodeState ≠ .running → t.au.clients = []) := by
    rw [au]
    exact ⟨ordered, limit, idle⟩
  cases m with
  | client m =>
    exact ⟨m.keeps_ordered ordered, limit, fun stops => (m.running (idle stops)).elim (fun h => h) fun h => absurd h stops⟩
  | listener m =>
    refine ⟨m.keeps_ordered ordered, limit, fun stops => ?_⟩
    have none := m.ids_sublist
    rw [idle stops] at none
    simpa using none
  | drawn => exact same rfl
  | radio m => exact same (by rw [m.frame]; rfl)
  | counter m => exact same (by rw [m.frame.1]; rfl)
  | bus m => exact same (by rw [m.frame.1]; rfl)
  | peer m => exact same (by rw [m.frame.1]; rfl)
  | seat m => exact same rfl
  | replay m => exact same (by rw [m.frame]; rfl)

theorem Configured.limit {p : Option Params} (h : Configured p) :
    1 ≤ (p.getD Params.default).limit ∧ (p.getD Params.default).limit ≤ 48 := by
  obtain rfl | ⟨r, rfl⟩ := h
  · decide
  · simp only [Option.getD_some, paramsOf, clampNat]
    omega

theorem State.clientsOrdered_of_empty {s : State} (limit : s.par.limit ≤ 48) (clients : s.au.clients = [])
    (rising : (s.au.sightings.map (·.id.toNat)).Pairwise (· < ·)) (places : s.au.sightings.length ≤ sightingPlaces)
    (signals : ∀ g ∈ s.au.sightings, -400 ≤ g.signal ∧ g.signal ≤ -80) : s.clientsOrdered := by
  rw [State.clientsOrdered_iff]
  refine ⟨⟨?_, rising, ?_, ?_, places, ?_, signals⟩, limit, fun _ => clients⟩ <;> rw [clients]
  · exact .nil
  · exact nofun
  · exact Nat.zero_le _
  · exact nofun

theorem State.readStrap_par {s : State} (fresh : s.sl = StartUp.initial) (strap : BitVec 5) :
    (s.readStrap strap).par = Params.default := by
  unfold State.readStrap
  split
  · rw [State.par, State.setSl_sl, fresh]
    rfl
  · rfl

theorem State.configured_clientsOrdered {s : State} (h : s.clientsOrdered) (starting : s.sl.nodeState = .starting)
    {p : Option Params} (configured : Configured p) : (s.configured p).clientsOrdered := by
  obtain ⟨ordered, -, idle⟩ := (State.clientsOrdered_iff s).mp h
  exact State.clientsOrdered_of_empty configured.limit.2 (idle (by rw [starting]; exact nofun)) ordered.sightings_rising
    ordered.places ordered.signals

theorem Change.keeps_clientsOrdered {s t : State} (h : s.clientsOrdered) (change : Change s t) : t.clientsOrdered := by
  cases change with
  | move m => exact m.keeps_clientsOrdered h
  | time dt => exact h
  | commands rest => exact h
  | reset quiet ready strap =>
    have au : ((s.powerOn quiet ready).readStrap strap).au = Association.initial := by simp; rfl
    refine State.clientsOrdered_of_empty ?_ ?_ ?_ ?_ ?_
    · rw [State.readStrap_par rfl]; decide
    all_goals rw [au]
    · rfl
    · exact .nil
    · exact Nat.zero_le _
    · exact nofun
  | listen p starting configured =>
    have h := State.configured_clientsOrdered h starting configured
    rw [State.clientsOrdered_iff] at h ⊢
    simpa [State.par] using h
  | crowded p starting configured => exact State.configured_clientsOrdered h starting configured
  | boundary next due => exact h
  | listened =>
    rw [State.clientsOrdered_iff] at h ⊢
    rw [State.countListening_par, (s.countListening_frame).2.2.2.1]
    exact ⟨h.1, h.2.1, fun stops => h.2.2 (s.countListening_running stops)⟩

/-! ## The roam exchanges (R38) -/

/-- Entries of which each stands for one that was there, takes no place that it had not, and waits as R38 allows. -/
theorem State.roamOrdered.of_map {s t : State} (h : s.roamOrdered) {f : ClientEntry → ClientEntry} {l : List ClientEntry}
    (clients : t.au.clients = l.map f) (fewer : l.Sublist s.au.clients)
    (reserved : ∀ e ∈ s.au.clients, (f e).isReserved = true → e.isReserved = true)
    (roamOut : ∀ e ∈ s.au.clients, (f e).isRoamOut = true → e.isRoamOut = true)
    (waits : ∀ e ∈ s.au.clients, e.waitsOrdered → (f e).waitsOrdered) : t.roamOrdered := by
  obtain ⟨reservedPlaces, outPlaces, ordered⟩ := h
  have count {p : ClientEntry → Bool} (keeps : ∀ e ∈ s.au.clients, p (f e) = true → p e = true) :
      (l.map f).countP p ≤ s.au.clients.countP p := by
    rw [List.countP_map]
    exact (List.countP_mono_left fun e he => keeps e (fewer.subset he)).trans fewer.countP_le
  refine ⟨?_, ?_, ?_⟩ <;> rw [clients]
  · exact (count reserved).trans reservedPlaces
  · exact (count roamOut).trans outPlaces
  · intro x hx
    obtain ⟨e, he, rfl⟩ := List.mem_map.mp hx
    exact waits e (fewer.subset he) (ordered e (fewer.subset he))

theorem State.roamOrdered.of_harmless {s t : State} (h : s.roamOrdered) {f : ClientEntry → ClientEntry}
    (clients : t.au.clients = s.au.clients.map f) (harmless : ∀ e ∈ s.au.clients, ClientEntry.Harmless e (f e)) :
    t.roamOrdered :=
  h.of_map clients (.refl _) (fun e he => (harmless e he).reserved) (fun e he => (harmless e he).roamOut) fun e he =>
    (harmless e he).waits

theorem State.roamOrdered.of_fewer {s t : State} (h : s.roamOrdered) (fewer : t.au.clients.Sublist s.au.clients) :
    t.roamOrdered :=
  h.of_map (f := fun e => e) (List.map_id' _).symm fewer (fun _ _ h => h) (fun _ _ h => h) fun _ _ h => h

/-- Entries whose subscriptions alone change. -/
theorem State.roamOrdered.of_subscriptions {s : State} (h : s.roamOrdered) (c : ClientId) (g : ClientEntry → List StreamId) :
    (s.updateEntry c (fun e => { e with subscriptions := g e })).roamOrdered := by
  refine h.of_map rfl (.refl _) ?_ ?_ ?_ <;> intro e _ <;> dsimp only <;> split <;> exact fun h => h

theorem State.createEntry_roamOrdered {s : State} (h : s.roamOrdered) {e : ClientEntry} (new : Newcomer s e) :
    (s.createEntry e).roamOrdered := by
  have absent := State.absent_of_findEntry new.absent
  have perm := putBy_perm_new (key := fun x : ClientEntry => x.id.toNat) (x := e) (l := s.au.clients) fun y hy h =>
    absent y hy (BitVec.eq_of_toNat_eq h)
  obtain ⟨f, scored, clients⟩ := s.createEntry_clients e
  have same (x : ClientEntry) : (f x).state = x.state ∧ (f x).holdDown = x.holdDown ∧ (f x).contextWait = x.contextWait := by
    obtain ⟨e, -⟩ | ⟨-, t, e⟩ := scored x <;> rw [e] <;> exact ⟨rfl, rfl, rfl⟩
  have count {p : ClientEntry → Bool} (byState : ∀ x y : ClientEntry, x.state = y.state → p x = p y) :
      (s.createEntry e).au.clients.countP p = s.au.clients.countP p + if p e = true then 1 else 0 := by
    rw [clients, List.countP_map, List.countP_congr (q := p) fun x _ => by rw [Function.comp, byState _ x (same x).1],
      perm.countP_eq, List.countP_cons]
  obtain ⟨reserved, roamOut, waits⟩ := h
  refine ⟨?_, ?_, fun x hx => ?_⟩
  · rw [count fun x y h => by simp only [ClientEntry.isReserved, h]]
    split
    · rename_i isReserved
      exact new.reserved isReserved
    · exact reserved
  · rw [count fun x y h => by simp only [ClientEntry.isRoamOut, h], new.roamOut]
    exact roamOut
  · rw [clients] at hx
    obtain ⟨y, hy, rfl⟩ := List.mem_map.mp hx
    obtain ⟨state, hold, wait⟩ := same y
    rw [state, hold, wait]
    obtain rfl | hy := mem_putBy hy
    · exact fun _ => new.waits
    · exact waits y hy

theorem ClientMove.keeps_roamOrdered {s t : State} (o : s.au.Ordered s.par.limit) (h : s.roamOrdered) (m : ClientMove s t) :
    t.roamOrdered := by
  cases m with
  | edit f harmless => exact h.of_harmless rfl harmless
  | restate c e f found id harmless =>
    refine h.of_harmless rfl fun x hx => ?_
    split
    · rename_i same
      rw [State.eq_of_findEntry o.ids_apart found hx (eq_of_beq same)]
      exact harmless
    · exact ⟨rfl, fun _ => rfl, fun h => h, fun h => h, fun h => h, fun h => h, fun h => h⟩
  | grant c e peer expiry found associated free place =>
    obtain ⟨reserved, -, waits⟩ := h
    have only {x : ClientEntry} (hx : x ∈ s.au.clients) (same : (x.id == c) = true) : x = e :=
      State.eq_of_findEntry o.ids_apart found hx (eq_of_beq same)
    refine ⟨?_, (countP_change_le o.ids_apart c _ _).trans place, fun x' hx' => ?_⟩
    · rw [State.updateEntry, State.setAu_au, List.countP_map]
      refine (List.countP_mono_left fun x _ => ?_).trans reserved
      dsimp only [Function.comp]
      split
      · exact nofun
      · exact fun h => h
    · obtain ⟨x, hx, rfl⟩ := List.mem_map.mp hx'
      split
      · rename_i same
        rw [only hx same]
        exact fun _ => ⟨free, rfl⟩
      · exact waits x hx
  | roamReset => exact h.of_fewer List.filter_sublist
  | create e new => exact State.createEntry_roamOrdered h new
  | sight g => exact h.of_fewer (sublist_of_eq (State.insertSighting_clients _ _))
  | resight c f => exact h
  | unsight c => exact h

theorem ListenerMove.keeps_roamOrdered {s t : State} (h : s.roamOrdered) (m : ListenerMove s t) : t.roamOrdered := by
  have removed (c : ClientId) : (s.removeEntry c).au.clients.Sublist s.au.clients := by
    rw [State.removeEntry_au]
    exact List.filter_sublist
  cases m with
  | remove c => exact h.of_fewer (removed c)
  | endReservation e peer =>
    refine h.of_fewer ?_
    rw [State.endReservation, State.insertSighting_clients]
    exact removed e.id
  | withdraw l =>
    have fold (l : List (ClientId × StreamId)) (u : State) (h : u.roamOrdered) : (l.foldl State.withdrawn u).roamOrdered := by
      induction l generalizing u with
      | nil => exact h
      | cons p l ih => exact ih _ (h.of_subscriptions p.1 _)
    exact fold l s h
  | subscribe c i => exact h.of_subscriptions c _

theorem Move.keeps_roamOrdered {s t : State} (o : s.clientsOrdered) (h : s.roamOrdered) (m : Move s t) : t.roamOrdered := by
  cases m with
  | client m => exact m.keeps_roamOrdered ((State.clientsOrdered_iff s).mp o).1 h
  | listener m => exact m.keeps_roamOrdered h
  | drawn => exact h
  | radio m => rw [m.frame]; exact h
  | counter m => rw [m.frame.1]; exact h
  | bus m => rw [m.frame.1]; exact h
  | peer m => rw [m.frame.1]; exact h
  | seat m => exact h
  | replay m => rw [m.frame]; exact h

theorem Change.keeps_roamOrdered {s t : State} (o : s.clientsOrdered) (h : s.roamOrdered) (change : Change s t) :
    t.roamOrdered := by
  cases change with
  | move m => exact m.keeps_roamOrdered o h
  | time dt => exact h
  | commands rest => exact h
  | reset quiet ready strap =>
    unfold State.roamOrdered
    rw [(State.readStrap_frame _ strap).2.2.2.1]
    exact ⟨Nat.zero_le _, Nat.zero_le _, nofun⟩
  | listen p => exact h.of_fewer (sublist_of_eq (by simp))
  | crowded p => exact h
  | boundary next due => exact h
  | listened => exact h.of_fewer (sublist_of_eq (by simp))

end Sys2Proof.Machine

open Sys2Proof Sys2Proof.Machine

/-- Settles O57: an entry is made only for a client without one at a RUNNING node with room, and every other change keeps or removes
entries and sightings in their places. -/
theorem stepKeepsClientsOrdered : Obligations.StepKeepsClientsOrdered := by
  unfold Obligations.StepKeepsClientsOrdered
  constructor
  · intro s t h next
    exact step_keeps (P := State.clientsOrdered) (fun _ _ h c => c.keeps_clientsOrdered h) h next
  · intro s t o h next
    exact (step_keeps (P := fun s => s.clientsOrdered ∧ s.roamOrdered)
      (fun _ _ h c => ⟨c.keeps_clientsOrdered h.1, c.keeps_roamOrdered h.1 h.2⟩) ⟨o, h⟩ next).2

end

section
/-! SUPPORT. The streams and their counts: what each change keeps of their order (R102, R107, R111, R113). -/

namespace Sys2Proof.Machine

/-- The items of a list with keys of their own: the one found, and those with another key. -/
theorem perm_of_find {α κ : Type} [BEq κ] [LawfulBEq κ] {key : α → κ} {l : List α} (apart : (l.map key).Nodup) {k : κ} {x : α}
    (found : l.find? (fun x => key x == k) = some x) : l.Perm (x :: l.filter (fun x => key x != k)) := by
  induction l with
  | nil => cases found
  | cons y ys ih =>
    obtain ⟨new, apart⟩ := List.nodup_cons.mp apart
    by_cases same : key y = k
    · rw [List.find?_cons_of_pos (by simpa using same)] at found
      cases found
      have others : ys.filter (fun x => key x != k) = ys :=
        List.filter_eq_self.mpr fun z hz => by
          simp only [bne_iff_ne, ne_eq]
          exact fun e => new (List.mem_map.mpr ⟨z, hz, e.trans same.symm⟩)
      rw [List.filter_cons_of_neg (by simpa using same), others]
    · rw [List.find?_cons_of_neg (by simpa using same)] at found
      rw [List.filter_cons_of_pos (by simpa using same)]
      exact ((ih apart found).cons y).trans (.swap x y _)

/-- One item changed, among those with another key. -/
theorem change_perm_of_find {α κ : Type} [BEq κ] [LawfulBEq κ] {key : α → κ} {l : List α} (apart : (l.map key).Nodup) {k : κ}
    {x : α} (found : l.find? (fun x => key x == k) = some x) (f : α → α) :
    (l.map (fun x => if key x == k then f x else x)).Perm (f x :: l.filter (fun x => key x != k)) := by
  have at_key : key x = k := by simpa using List.find?_some found
  refine ((perm_of_find apart found).map _).trans ?_
  rw [List.map_cons, if_pos (by simpa using at_key)]
  refine .cons _ (.of_eq ?_)
  refine (List.map_congr_left fun y hy => if_neg ?_).trans (List.map_id _)
  simpa using (List.mem_filter.mp hy).2

/-! ## The catalogue against its listeners -/

/-- One stream's own part of the order. -/
structure StreamEntry.Sound (e : StreamEntry) : Prop where
  counted : (e.activity = .joining ∨ e.activity = .active) ↔ e.subscribers ≠ 0
  ended : e.ended = true → e.activity = .leaving
  group : e.airGroup = none ↔ e.activity = .dormant
  small : ∀ g, e.airGroup = some g → g < 8

/-- The catalogue's part of the order, with the number of listeners of each stream. -/
structure Catalogued (cat : List StreamEntry) (listeners : StreamId → Nat) : Prop where
  places : cat.length ≤ cataloguePlaces
  rising : (cat.map (·.id)).Pairwise (· < ·)
  named : ∀ i, listeners i ≠ 0 → ∃ e ∈ cat, e.id = i
  count : ∀ e ∈ cat, e.subscribers = listeners e.id
  sound : ∀ e ∈ cat, e.Sound
  groups : ∀ e ∈ cat, ∀ e' ∈ cat, e.airGroup = e'.airGroup → e.airGroup ≠ none → e.id = e'.id

theorem Catalogued.eq_of_find {cat : List StreamEntry} {listeners : StreamId → Nat} (h : Catalogued cat listeners)
    {i : StreamId} {e x : StreamEntry} (found : cat.find? (fun e => e.id == i) = some e) (hx : x ∈ cat) (id : x.id = i) :
    x = e :=
  Machine.eq_of_find (nodup_of_rising h.rising) found hx id

/-- A stream that the entries listen to is found. -/
theorem Catalogued.find {cat : List StreamEntry} {listeners : StreamId → Nat} (h : Catalogued cat listeners) {i : StreamId}
    (some_listen : listeners i ≠ 0) : ∃ e, cat.find? (fun e => e.id == i) = some e := by
  obtain ⟨e, he, id⟩ := h.named i some_listen
  exact Option.isSome_iff_exists.mp ((List.find?_isSome (p := fun e : StreamEntry => e.id == i)).mpr ⟨e, he, by simpa using id⟩)

/-- What a change makes of a stream whose count stays: it stays as sound, and keeps its group or gives it back. -/
structure StreamEntry.Steady (e e' : StreamEntry) : Prop where
  id : e'.id = e.id
  subscribers : e'.subscribers = e.subscribers
  group : e'.airGroup = none ∨ e'.airGroup = e.airGroup
  sound : e.Sound → e'.Sound

/-- Streams changed steadily, or removed where nobody listens. -/
theorem Catalogued.filterMap {cat : List StreamEntry} {listeners : StreamId → Nat} (h : Catalogued cat listeners)
    {g : StreamEntry → Option StreamEntry} (steady : ∀ e ∈ cat, ∀ e', g e = some e' → StreamEntry.Steady e e')
    (gone : ∀ e ∈ cat, g e = none → listeners e.id = 0) : Catalogued (cat.filterMap g) listeners := by
  have mem {e' : StreamEntry} (he' : e' ∈ cat.filterMap g) : ∃ e ∈ cat, StreamEntry.Steady e e' := by
    obtain ⟨e, he, same⟩ := List.mem_filterMap.mp he'
    exact ⟨e, he, steady e he e' same⟩
  refine ⟨(List.length_filterMap_le _ _).trans h.places, ?_, fun i listen => ?_, fun e' he' => ?_, fun e' he' => ?_, ?_⟩
  · refine List.pairwise_map.mpr (List.pairwise_filterMap.mpr ?_)
    refine (List.pairwise_map.mp h.rising).imp_of_mem fun {a b} ha hb less a' same b' same' => ?_
    rw [(steady a ha a' same).id, (steady b hb b' same').id]
    exact less
  · obtain ⟨e, he, rfl⟩ := h.named i listen
    match same : g e with
    | none => exact absurd (gone e he same) listen
    | some e' => exact ⟨e', List.mem_filterMap.mpr ⟨e, he, same⟩, (steady e he e' same).id⟩
  · obtain ⟨e, he, steady⟩ := mem he'
    rw [steady.subscribers, steady.id]
    exact h.count e he
  · obtain ⟨e, he, steady⟩ := mem he'
    exact steady.sound (h.sound e he)
  · intro a' ha' b' hb' same held
    obtain ⟨a, ha, steadyA⟩ := mem ha'
    obtain ⟨b, hb, steadyB⟩ := mem hb'
    have groupA := steadyA.group.resolve_left held
    have groupB := steadyB.group.resolve_left (same ▸ held)
    rw [steadyA.id, steadyB.id]
    exact h.groups a ha b hb (by rw [← groupA, ← groupB, same]) (groupA ▸ held)

theorem Catalogued.map {cat : List StreamEntry} {listeners : StreamId → Nat} (h : Catalogued cat listeners)
    {f : StreamEntry → StreamEntry} (steady : ∀ e ∈ cat, StreamEntry.Steady e (f e)) : Catalogued (cat.map f) listeners := by
  rw [← List.filterMap_eq_map]
  exact h.filterMap (fun e he e' same => Option.some.inj same ▸ steady e he) nofun

theorem Catalogued.filter {cat : List StreamEntry} {listeners : StreamId → Nat} (h : Catalogued cat listeners)
    {p : StreamEntry → Bool} (gone : ∀ e ∈ cat, p e = false → listeners e.id = 0) :
    Catalogued (cat.filter p) listeners := by
  rw [← List.filterMap_eq_filter]
  refine h.filterMap (fun e he e' same => ?_) fun e he same => gone e he ?_
  · rw [(Option.guard_eq_some_iff.mp same).1]
    exact ⟨rfl, rfl, .inr rfl, fun h => h⟩
  · simpa using same

/-- The stream's entry alone changed, and steadily. -/
theorem Catalogued.change_steady {cat : List StreamEntry} {listeners : StreamId → Nat} (h : Catalogued cat listeners)
    {i : StreamId} {f : StreamEntry → StreamEntry}
    (steady : ∀ e, cat.find? (fun e => e.id == i) = some e → StreamEntry.Steady e (f e)) :
    Catalogued (cat.map (fun e => if e.id == i then f e else e)) listeners := by
  refine h.map fun x hx => ?_
  split
  · rename_i same
    obtain ⟨e, found⟩ := Option.isSome_iff_exists.mp
      ((List.find?_isSome (p := fun e : StreamEntry => e.id == i)).mpr ⟨x, hx, same⟩)
    rw [h.eq_of_find found hx (eq_of_beq same)]
    exact steady e found
  · exact ⟨rfl, rfl, .inr rfl, fun h => h⟩

/-- One stream's listeners and its entry change together; its group is kept, given back, or taken where nobody held it. -/
theorem Catalogued.change {cat : List StreamEntry} {listeners listeners' : StreamId → Nat} (h : Catalogued cat listeners)
    {i : StreamId} {e : StreamEntry} {f : StreamEntry → StreamEntry} (found : cat.find? (fun e => e.id == i) = some e)
    (others : ∀ j, j ≠ i → listeners' j = listeners j) (id : ∀ x, (f x).id = x.id) (count : (f e).subscribers = listeners' i)
    (sound : (f e).Sound)
    (group : (f e).airGroup = none ∨ (f e).airGroup = e.airGroup ∨ ∀ x ∈ cat, x.airGroup ≠ (f e).airGroup) :
    Catalogued (cat.map (fun e => if e.id == i then f e else e)) listeners' := by
  have e_mem := List.mem_of_find?_eq_some found
  have e_id : e.id = i := by simpa using List.find?_some found
  have ids : (cat.map (fun e => if e.id == i then f e else e)).map (·.id) = cat.map (·.id) := by
    rw [List.map_map]
    refine List.map_congr_left fun x _ => ?_
    dsimp only [Function.comp]
    split
    · exact id x
    · rfl
  have mem {x' : StreamEntry} (hx' : x' ∈ cat.map (fun e => if e.id == i then f e else e)) :
      x' = f e ∨ x' ∈ cat ∧ x'.id ≠ i := by
    obtain ⟨x, hx, rfl⟩ := List.mem_map.mp hx'
    split
    · rename_i same
      exact .inl (by rw [h.eq_of_find found hx (eq_of_beq same)])
    · rename_i other
      exact .inr ⟨hx, by simpa using other⟩
  have new_apart {x : StreamEntry} (hx : x ∈ cat) (other : x.id ≠ i) (same : x.airGroup = (f e).airGroup)
      (held : (f e).airGroup ≠ none) : False := by
    obtain none | kept | free := group
    · exact held none
    · refine other ?_
      rw [← e_id]
      exact h.groups x hx e e_mem (same.trans kept) (same ▸ held)
    · exact free x hx same
  refine ⟨by simpa using h.places, by rw [ids]; exact h.rising, fun j listen => ?_, fun x' hx' => ?_, fun x' hx' => ?_, ?_⟩
  · have : j ∈ cat.map (·.id) := by
      by_cases same : j = i
      · exact List.mem_map.mpr ⟨e, e_mem, e_id.trans same.symm⟩
      · exact List.mem_map.mpr (h.named j (others j same ▸ listen))
    exact List.mem_map.mp (ids ▸ this)
  · obtain rfl | ⟨hx, other⟩ := mem hx'
    · rw [count, id, e_id]
    · rw [others _ other]
      exact h.count x' hx
  · obtain rfl | ⟨hx, -⟩ := mem hx'
    · exact sound
    · exact h.sound x' hx
  · intro x' hx' y' hy' same held
    obtain rfl | ⟨hx, otherX⟩ := mem hx' <;> obtain rfl | ⟨hy, otherY⟩ := mem hy'
    · rfl
    · exact (new_apart hy otherY same.symm held).elim
    · exact (new_apart hx otherX same (same ▸ held)).elim
    · exact h.groups x' hx y' hy same held

/-- A new stream, DORMANT and without listeners. -/
theorem Catalogued.insert {cat : List StreamEntry} {listeners : StreamId → Nat} (h : Catalogued cat listeners)
    {e : StreamEntry} (room : cat.length < cataloguePlaces) (silent : listeners e.id = 0) (count : e.subscribers = 0)
    (sound : e.Sound) (free : e.airGroup = none) (new : ∀ x ∈ cat, x.id ≠ e.id) :
    Catalogued (putBy (fun x => x.id) e cat) listeners where
  places := (putBy_length_le _ _ _).trans room
  rising := putBy_sorted e h.rising
  named i listen := by
    obtain ⟨x, hx, same⟩ := h.named i listen
    exact ⟨x, mem_putBy_of_ne hx (new x hx), same⟩
  count x hx := by
    obtain rfl | hx := mem_putBy hx
    · rw [count, silent]
    · exact h.count x hx
  sound x hx := by
    obtain rfl | hx := mem_putBy hx
    · exact sound
    · exact h.sound x hx
  groups x hx y hy same held := by
    obtain rfl | hx := mem_putBy hx
    · exact absurd free held
    · obtain rfl | hy := mem_putBy hy
      · exact absurd (same.trans free) held
      · exact h.groups x hx y hy same held

/-! ## What the Replay Unit does to its streams -/

theorem StreamEntry.steady_afterAiring (g : Segment) (e : StreamEntry) : StreamEntry.Steady e (e.afterAiring g) :=
  ⟨rfl, rfl, .inr rfl, fun h => ⟨h.counted, h.ended, h.group, h.small⟩⟩

theorem StreamEntry.steady_afterUnderrun (e : StreamEntry) : StreamEntry.Steady e e.afterUnderrun := by
  unfold StreamEntry.afterUnderrun
  split
  · dsimp only
    split <;> exact ⟨rfl, rfl, .inr rfl, fun h => ⟨h.counted, h.ended, h.group, h.small⟩⟩
  · exact ⟨rfl, rfl, .inr rfl, fun h => ⟨h.counted, h.ended, h.group, h.small⟩⟩

theorem StreamEntry.steady_cache (g : Segment) (e : StreamEntry) : StreamEntry.Steady e (e.cache g) :=
  ⟨rfl, rfl, .inr rfl, fun h => ⟨h.counted, h.ended, h.group, h.small⟩⟩

theorem StreamEntry.steady_freed (e : StreamEntry) : StreamEntry.Steady e e.freed :=
  ⟨rfl, rfl, .inr rfl, fun h => ⟨h.counted, h.ended, h.group, h.small⟩⟩

theorem StreamEntry.steady_reannounced (tier : Tier) (fill : Fill) (now : Time) (e : StreamEntry) :
    StreamEntry.Steady e (e.reannounced tier fill now) :=
  ⟨rfl, rfl, .inr rfl, fun h => ⟨h.counted, nofun, h.group, h.small⟩⟩

theorem StreamEntry.steady_activated (e : StreamEntry) : StreamEntry.Steady e e.activated := by
  unfold StreamEntry.activated
  split
  · rename_i joining
    refine ⟨rfl, rfl, .inr rfl, fun h => ⟨?_, fun ended => ?_, ?_, h.small⟩⟩
    · exact iff_of_true (.inr rfl) (h.counted.mp (.inl joining))
    · exact absurd (h.ended ended) (by rw [joining]; exact nofun)
    · refine iff_of_false (fun none => ?_) nofun
      exact absurd (h.group.mp none) (by rw [joining]; exact nofun)
  · exact ⟨rfl, rfl, .inr rfl, fun h => h⟩

theorem StreamEntry.steady_rejoined (e : StreamEntry) : StreamEntry.Steady e e.rejoined := by
  unfold StreamEntry.rejoined
  split
  · exact ⟨rfl, rfl, .inr rfl, fun h => h⟩
  · rename_i heard
    refine ⟨rfl, rfl, .inr rfl, fun h => ⟨iff_of_true (.inl rfl) heard, fun ended => ?_, ?_, h.small⟩⟩
    · have leaving := h.ended ended
      exact absurd (h.counted.mpr heard) (by rw [leaving]; exact fun h => h.elim nofun nofun)
    · refine iff_of_false (fun none => ?_) nofun
      have dormant := h.group.mp none
      exact absurd (h.counted.mpr heard) (by rw [dormant]; exact fun h => h.elim nofun nofun)

/-- A stream nobody listens to, cleared. -/
theorem StreamEntry.sound_cleared {e : StreamEntry} (silent : e.subscribers = 0) (live : e.ended = false) : e.cleared.Sound where
  counted := iff_of_false (fun h => h.elim nofun nofun) fun h => h silent
  ended h := absurd (live.symm.trans h) nofun
  group := iff_of_true rfl rfl
  small := nofun

theorem StreamEntry.Sound.silent {e : StreamEntry} (h : e.Sound) (leaving : e.activity = .leaving) : e.subscribers = 0 := by
  by_contra heard
  have := h.counted.mpr heard
  rw [leaving] at this
  exact this.elim nofun nofun

theorem Catalogued.clearLeaving {cat : List StreamEntry} {listeners : StreamId → Nat} (h : Catalogued cat listeners) :
    Catalogued (clearLeaving cat) listeners := by
  refine h.filterMap (fun e he e' same => ?_) fun e he same => ?_
  · split at same
    · rename_i leaving
      split at same
      · cases same
      · rename_i live
        cases same
        exact ⟨rfl, rfl, .inl rfl, fun h => StreamEntry.sound_cleared (h.silent leaving) (by simpa using live)⟩
    · cases same
      exact ⟨rfl, rfl, .inr rfl, fun h => h⟩
  · split at same
    · rename_i leaving
      exact (h.count e he).symm.trans ((h.sound e he).silent leaving)
    · cases same

theorem SlotStarts.keeps_catalogued {v w : ReplayUnit} {k : Nat} {listeners : StreamId → Nat}
    (h : Catalogued v.catalogue listeners) (m : SlotStarts v k w) : Catalogued w.catalogue listeners := by
  cases m with
  | idle => exact h
  | airs e g => exact h.change_steady fun x _ => x.steady_afterAiring g
  | underruns e n => exact h.change_steady fun x _ => x.steady_afterUnderrun

theorem ReplayUnit.cycleStarted_catalogued {v : ReplayUnit} {listeners : StreamId → Nat}
    (h : Catalogued v.catalogue listeners) (offset : Nat → Nat) (now : Time) :
    Catalogued (v.cycleStarted offset now).catalogue listeners :=
  h.map fun e _ => e.steady_activated

theorem CycleEnds.keeps_catalogued {v w : ReplayUnit} {n : Nat} {now : Time} {listeners : StreamId → Nat}
    (h : Catalogued v.catalogue listeners) (m : CycleEnds v n now w) : Catalogued w.catalogue listeners := by
  cases m with
  | stop none_left => exact h.clearLeaving
  | restart w some_left starts => exact starts.keeps_catalogued (ReplayUnit.cycleStarted_catalogued h.clearLeaving _ _)

theorem ReplayUnit.emptied_catalogued {v : ReplayUnit} {listeners : StreamId → Nat} (h : Catalogued v.catalogue listeners) :
    Catalogued v.emptied.catalogue listeners :=
  (h.map fun e _ => e.steady_freed).clearLeaving.map fun e _ => e.steady_rejoined

theorem ReplayResets.keeps_catalogued {v w : ReplayUnit} {now : Time} {listeners : StreamId → Nat}
    (h : Catalogued v.catalogue listeners) (m : ReplayResets v now w) : Catalogued w.catalogue listeners := by
  cases m with
  | stop none_left => exact ReplayUnit.emptied_catalogued h
  | restart w some_left starts =>
    exact starts.keeps_catalogued (ReplayUnit.cycleStarted_catalogued (ReplayUnit.emptied_catalogued h) _ _)

/-! ## Counts that rise and fall -/

/-- The listeners with one more for a stream. -/
def oneMore (listeners : StreamId → Nat) (i : StreamId) : StreamId → Nat := fun j => if j = i then listeners i + 1 else listeners j

/-- The listeners with one fewer for a stream. -/
def oneFewer (listeners : StreamId → Nat) (i : StreamId) : StreamId → Nat := fun j => if j = i then listeners i - 1 else listeners j

theorem oneMore_self (listeners : StreamId → Nat) (i : StreamId) : oneMore listeners i i = listeners i + 1 := if_pos rfl
theorem oneMore_other (listeners : StreamId → Nat) {i j : StreamId} (h : j ≠ i) : oneMore listeners i j = listeners j := if_neg h
theorem oneFewer_self (listeners : StreamId → Nat) (i : StreamId) : oneFewer listeners i i = listeners i - 1 := if_pos rfl
theorem oneFewer_other (listeners : StreamId → Nat) {i j : StreamId} (h : j ≠ i) : oneFewer listeners i j = listeners j := if_neg h

theorem Catalogued.count_of_find {v : ReplayUnit} {listeners : StreamId → Nat} (h : Catalogued v.catalogue listeners)
    {i : StreamId} {e : StreamEntry} (found : v.find i = some e) : e.subscribers = listeners i := by
  have id : e.id = i := by simpa using List.find?_some found
  rw [h.count e (List.mem_of_find?_eq_some found), id]

/-- A DORMANT stream joins with a free group (R108). -/
theorem Catalogued.join {v : ReplayUnit} {listeners : StreamId → Nat} (h : Catalogued v.catalogue listeners) {i : StreamId}
    {e : StreamEntry} {group : Nat} (found : v.find i = some e) (dormant : e.activity = .dormant)
    (none_counted : e.subscribers = 0) (free : ∀ x ∈ v.catalogue, x.airGroup ≠ some group) (small : group < 8) :
    Catalogued (v.change i (StreamEntry.joined (some group))).catalogue (oneMore listeners i) := by
  have live := (h.sound e (List.mem_of_find?_eq_some found)).ended
  refine h.change found (fun j other => oneMore_other _ other) (fun _ => rfl) ?_ ⟨?_, fun ended => ?_, ?_, ?_⟩
    (.inr (.inr free))
  · rw [oneMore_self, ← h.count_of_find found, none_counted]
    rfl
  · exact iff_of_true (.inl rfl) nofun
  · exact absurd (live ended) (by rw [dormant]; exact nofun)
  · exact iff_of_false nofun nofun
  · rintro g ⟨⟩
    exact small

theorem Raises.keeps_catalogued {v w : ReplayUnit} {i : StreamId} {now : Time} {listeners : StreamId → Nat}
    (h : Catalogued v.catalogue listeners) (m : Raises v i now w) : Catalogued w.catalogue (oneMore listeners i) := by
  cases m with
  | start e group w found dormant none_counted free small stopped starts =>
    exact starts.keeps_catalogued
      (ReplayUnit.cycleStarted_catalogued (h.join found dormant none_counted free small) _ _)
  | join e group found dormant none_counted free small running => exact h.join found dormant none_counted free small
  | revive e found leaving none_counted live =>
    have sound := h.sound e (List.mem_of_find?_eq_some found)
    refine h.change found (fun j other => oneMore_other _ other) (fun _ => rfl) ?_ ⟨?_, fun ended => ?_, ?_, sound.small⟩
      (.inr (.inl rfl))
    · rw [oneMore_self, ← h.count_of_find found, none_counted]
    · exact iff_of_true (.inr rfl) nofun
    · exact absurd (live.symm.trans ended) nofun
    · refine iff_of_false (fun none => ?_) nofun
      exact absurd (sound.group.mp none) (by rw [leaving]; exact nofun)
  | more e found counted =>
    have sound := h.sound e (List.mem_of_find?_eq_some found)
    refine h.change found (fun j other => oneMore_other _ other) (fun _ => rfl) ?_ ⟨?_, sound.ended, sound.group, sound.small⟩
      (.inr (.inl rfl))
    · rw [oneMore_self, ← h.count_of_find found]
    · refine iff_of_true ?_ (Nat.succ_ne_zero _)
      obtain heard | ⟨used, stays⟩ := counted
      · exact sound.counted.mpr heard
      · match activity : e.activity with
        | .joining => exact .inl rfl
        | .active => exact .inr rfl
        | .dormant => exact absurd activity used
        | .leaving => exact absurd activity stays

theorem StreamEntry.lowered_spec {e : StreamEntry} (sound : e.Sound) (heard : e.subscribers ≠ 0) :
    e.lowered.Sound ∧ e.lowered.subscribers = e.subscribers - 1 ∧
      (e.lowered.airGroup = none ∨ e.lowered.airGroup = e.airGroup) := by
  have counts := sound.counted.mpr heard
  have live : e.ended = false := by
    by_contra ended
    have leaving := sound.ended (by simpa using ended)
    rw [leaving] at counts
    exact counts.elim nofun nofun
  have used : e.airGroup ≠ none := fun none => by
    rw [sound.group.mp none] at counts
    exact counts.elim nofun nofun
  unfold StreamEntry.lowered
  dsimp only
  split
  · rename_i last
    split
    · exact ⟨StreamEntry.sound_cleared last live, rfl, .inl rfl⟩
    · refine ⟨⟨iff_of_false (fun h => h.elim nofun nofun) fun h => h last, fun _ => rfl, ?_, sound.small⟩, rfl, .inr rfl⟩
      exact iff_of_false used nofun
    · rename_i notJoining notActive
      exact absurd counts (fun h => h.elim notJoining notActive)
  · rename_i others
    exact ⟨⟨iff_of_true counts others, sound.ended, sound.group, sound.small⟩, rfl, .inr rfl⟩

theorem Catalogued.lower {cat : List StreamEntry} {listeners : StreamId → Nat} (h : Catalogued cat listeners) {i : StreamId}
    (heard : listeners i ≠ 0) :
    Catalogued (cat.map (fun e => if e.id == i then e.lowered else e)) (oneFewer listeners i) := by
  obtain ⟨e, found⟩ := h.find heard
  have e_mem := List.mem_of_find?_eq_some found
  have id : e.id = i := by simpa using List.find?_some found
  have count : e.subscribers = listeners i := by rw [h.count e e_mem, id]
  obtain ⟨sound, fewer, group⟩ := StreamEntry.lowered_spec (h.sound e e_mem) (by rw [count]; exact heard)
  refine h.change found (fun j other => oneFewer_other _ other) StreamEntry.lowered_id ?_ sound (group.imp_right .inl)
  rw [fewer, count, oneFewer_self]

/-- The streams of a list without repetitions lose one listener each. -/
theorem Catalogued.lower_all {s : State} {listeners : StreamId → Nat} (h : Catalogued s.ru.catalogue listeners)
    {l : List StreamId} (apart : l.Nodup) (heard : ∀ i ∈ l, listeners i ≠ 0) :
    Catalogued (l.foldl State.lowerCount s).ru.catalogue (fun j => if j ∈ l then listeners j - 1 else listeners j) := by
  induction l generalizing s listeners with
  | nil => simpa using h
  | cons i l ih =>
    obtain ⟨new, apart⟩ := List.nodup_cons.mp apart
    have lowered : Catalogued (s.lowerCount i).ru.catalogue (oneFewer listeners i) := h.lower (heard i List.mem_cons_self)
    have rest := ih lowered apart fun j hj => by
      have other : j ≠ i := fun same => new (same ▸ hj)
      rw [oneFewer_other _ other]
      exact heard j (List.mem_cons_of_mem _ hj)
    refine (congrArg (Catalogued _) (funext fun j => ?_)).mp rest
    by_cases same : j = i
    · subst same
      simp [new, oneFewer_self]
    · simp [same, oneFewer_other _ same]

/-! ## The entries that listen -/

/-- Entries that name no client and no stream twice. -/
structure Listeners (clients : List ClientEntry) (listeners : StreamId → Nat) : Prop where
  rising : (clients.map (·.id.toNat)).Pairwise (· < ·)
  apart : ∀ e ∈ clients, e.subscriptions.Nodup
  count : ∀ i, clients.countP (fun e => e.listens i) = listeners i

theorem State.streamsOrdered_iff (s : State) :
    s.streamsOrdered ↔ ∃ listeners, Catalogued s.ru.catalogue listeners ∧ Listeners s.au.clients listeners := by
  constructor
  · rintro ⟨places, rising, clients, apart, named, streams, groups⟩
    refine ⟨s.listeners, ⟨places, rising, fun i listen => ?_, fun e he => ?_, fun e he => ?_, groups⟩, clients, apart,
      fun i => rfl⟩
    · obtain ⟨e, he, listens⟩ := List.countP_pos_iff.mp (Nat.pos_of_ne_zero listen)
      obtain ⟨counted, subscribed⟩ := Bool.and_eq_true_iff.mp listens
      exact named e he counted i (by simpa using subscribed)
    · exact (streams e he).1
    · obtain ⟨-, counted, ended, group, small⟩ := streams e he
      exact ⟨counted, ended, group, small⟩
  · rintro ⟨listeners, catalogued, clients⟩
    have count (i : StreamId) : s.listeners i = listeners i := clients.count i
    refine ⟨catalogued.places, catalogued.rising, clients.rising, clients.apart, fun e he counted i hi => ?_, fun e he => ?_,
      catalogued.groups⟩
    · refine catalogued.named i ?_
      rw [← clients.count i]
      exact Nat.pos_iff_ne_zero.mp (List.countP_pos_iff.mpr ⟨e, he, by simp [ClientEntry.listens, counted, hi]⟩)
    · have sound := catalogued.sound e he
      exact ⟨by rw [count]; exact catalogued.count e he, sound.counted, sound.ended, sound.group, sound.small⟩

theorem Listeners.ids_apart {clients : List ClientEntry} {listeners : StreamId → Nat} (h : Listeners clients listeners) :
    (clients.map (·.id)).Nodup := by
  have := nodup_of_rising h.rising
  rw [← Function.comp_def, ← List.map_map] at this
  exact this.of_map _

theorem Listeners.map {clients : List ClientEntry} {listeners : StreamId → Nat} (h : Listeners clients listeners)
    {f : ClientEntry → ClientEntry} (id : ∀ e ∈ clients, (f e).id = e.id)
    (listens : ∀ e ∈ clients, ∀ i, (f e).listens i = e.listens i)
    (apart : ∀ e ∈ clients, e.subscriptions.Nodup → (f e).subscriptions.Nodup) : Listeners (clients.map f) listeners where
  rising := by
    rw [List.map_map]
    refine (congrArg (List.Pairwise (· < ·)) (List.map_congr_left fun e he => ?_)).mpr h.rising
    exact congrArg BitVec.toNat (id e he)
  apart e he := by
    obtain ⟨x, hx, rfl⟩ := List.mem_map.mp he
    exact apart x hx (h.apart x hx)
  count i := by
    rw [List.countP_map, ← h.count i]
    exact List.countP_congr fun e he => by rw [Function.comp, listens e he i]

theorem Listeners.filter {clients : List ClientEntry} {listeners : StreamId → Nat} (h : Listeners clients listeners)
    {p : ClientEntry → Bool} (silent : ∀ e ∈ clients, p e = false → ∀ i, e.listens i = false) :
    Listeners (clients.filter p) listeners where
  rising := h.rising.sublist (List.filter_sublist.map _)
  apart e he := h.apart e (List.mem_filter.mp he).1
  count i := by
    rw [List.countP_filter, ← h.count i]
    refine List.countP_congr fun e he => ?_
    cases kept : p e with
    | true => simp
    | false => simp [silent e he kept i]

/-! ## The moves -/

theorem ClientMove.keeps_listeners {s t : State} {listeners : StreamId → Nat} (h : Listeners s.au.clients listeners)
    (m : ClientMove s t) : Listeners t.au.clients listeners := by
  cases m with
  | edit f harmless =>
    exact h.map (fun e he => (harmless e he).id) (fun e he => (harmless e he).listens) fun e he => (harmless e he).nodup
  | restate c e f found id harmless =>
    have only {x : ClientEntry} (hx : x ∈ s.au.clients) (same : (x.id == c) = true) : x = e :=
      State.eq_of_findEntry h.ids_apart found hx (eq_of_beq same)
    refine h.map (fun x _ => ?_) (fun x hx i => ?_) fun x hx => ?_
    · split
      · exact id x
      · rfl
    · split
      · rename_i same
        rw [only hx same]
        exact harmless.listens i
      · rfl
    · split
      · rename_i same
        rw [only hx same]
        exact harmless.nodup
      · exact fun h => h
  | grant c e peer expiry found associated =>
    refine h.map (fun x _ => ?_) (fun x hx i => ?_) fun x hx => ?_
    · split <;> rfl
    · split
      · rename_i same
        rw [State.eq_of_findEntry h.ids_apart found hx (eq_of_beq same), ClientEntry.listens, ClientEntry.listens, associated]
        rfl
      · rfl
    · split <;> exact fun h => h
  | roamReset =>
    exact h.filter fun e _ kept i => by rw [ClientEntry.listens, kept, Bool.false_and]
  | create e new =>
    have key (x : ClientEntry) (hx : x ∈ s.au.clients) : x.id.toNat ≠ e.id.toNat := fun same =>
      State.absent_of_findEntry new.absent x hx (BitVec.eq_of_toNat_eq same)
    have perm := putBy_perm_new key
    obtain ⟨f, scored, clients⟩ := s.createEntry_clients e
    have put : Listeners (putBy (fun x => x.id.toNat) e s.au.clients) listeners := by
      refine ⟨putBy_sorted e h.rising, fun x hx => ?_, fun i => ?_⟩
      · obtain rfl | hx := mem_putBy hx
        · exact new.subscriptions.2
        · exact h.apart x hx
      · rw [perm.countP_eq, List.countP_cons, new.silent i]
        exact h.count i
    rw [clients]
    have same (x : ClientEntry) : (f x).id = x.id ∧ (f x).state = x.state ∧ (f x).subscriptions = x.subscriptions := by
      obtain ⟨same, -⟩ | ⟨-, t, same⟩ := scored x <;> rw [same] <;> exact ⟨rfl, rfl, rfl⟩
    refine put.map (fun x _ => (same x).1) (fun x _ i => ?_) fun x _ => ?_
    · rw [ClientEntry.listens, (same x).2.1, (same x).2.2, ClientEntry.listens]
    · rw [(same x).2.2]
      exact fun h => h
  | sight g => rw [State.insertSighting_clients]; exact h
  | resight c f => exact h
  | unsight c => exact h

/-- An entry goes, and each stream it listened to loses one listener. -/
theorem State.removeEntry_streamsOrdered {s : State} (h : s.streamsOrdered) (c : ClientId) :
    (s.removeEntry c).streamsOrdered := by
  obtain ⟨listeners, catalogued, clients⟩ := (State.streamsOrdered_iff s).mp h
  have au := s.removeEntry_au c
  rw [State.streamsOrdered_iff, au]
  unfold State.removeEntry
  split
  · rename_i none
    refine ⟨listeners, catalogued, clients.filter fun e he gone => ?_⟩
    exact absurd (by simpa using gone) (State.absent_of_findEntry none e he)
  · rename_i e found
    have e_mem := State.findEntry_mem found
    have only {x : ClientEntry} (hx : x ∈ s.au.clients) (gone : (x.id != c) = false) : x = e :=
      State.eq_of_findEntry clients.ids_apart found hx (by simpa using gone)
    split
    · rename_i counted
      have listens {i : StreamId} : e.listens i = true ↔ i ∈ e.subscriptions := by simp [ClientEntry.listens, counted]
      refine ⟨_, Catalogued.lower_all
        (s := s.setAu { s.au with clients := s.au.clients.filter (fun x => x.id != c) }) catalogued (clients.apart e e_mem)
        fun i hi => ?_, ?_⟩
      · rw [← clients.count i]
        exact Nat.pos_iff_ne_zero.mp (List.countP_pos_iff.mpr ⟨e, e_mem, listens.mpr hi⟩)
      · refine ⟨clients.rising.sublist (List.filter_sublist.map _), fun x hx => clients.apart x (List.mem_filter.mp hx).1,
          fun i => ?_⟩
        have total := (perm_of_find (key := fun e : ClientEntry => e.id) clients.ids_apart found).countP_eq (fun x => x.listens i)
        rw [clients.count i, List.countP_cons] at total
        dsimp only
        split
        · rename_i hi
          rw [if_pos (listens.mpr hi)] at total
          omega
        · rename_i hi
          rw [if_neg fun h => hi (listens.mp h)] at total
          omega
    · rename_i uncounted
      refine ⟨listeners, catalogued, clients.filter fun x hx gone i => ?_⟩
      rw [only hx gone, ClientEntry.listens, Bool.eq_false_of_not_eq_true uncounted, Bool.false_and]

/-- One entry's subscriptions change, and the listeners with them. -/
theorem Listeners.update {s : State} {listeners listeners' : StreamId → Nat} (h : Listeners s.au.clients listeners)
    {c : ClientId} {e : ClientEntry} {f : ClientEntry → ClientEntry} (found : s.findEntry c = some e)
    (id : ∀ x, (f x).id = x.id) (apart : (f e).subscriptions.Nodup)
    (count : ∀ i, listeners' i + (if e.listens i = true then 1 else 0) =
      listeners i + if (f e).listens i = true then 1 else 0) : Listeners (s.updateEntry c f).au.clients listeners' where
  rising := by
    have ids := s.updateEntry_ids c id
    have rising := h.rising
    rw [← Function.comp_def, ← List.map_map] at rising ⊢
    rwa [ids]
  apart x' hx' := by
    obtain ⟨x, hx, rfl⟩ := List.mem_map.mp hx'
    split
    · rename_i same
      rwa [State.eq_of_findEntry h.ids_apart found hx (eq_of_beq same)]
    · exact h.apart x hx
  count i := by
    have before := (perm_of_find (key := fun e : ClientEntry => e.id) h.ids_apart found).countP_eq (fun x => x.listens i)
    have after := (change_perm_of_find (key := fun e : ClientEntry => e.id) h.ids_apart found f).countP_eq (fun x => x.listens i)
    have change := count i
    rw [h.count i, List.countP_cons] at before
    rw [List.countP_cons] at after
    rw [State.updateEntry, State.setAu_au]
    dsimp only
    omega

/-- The entry with a stream taken from its list (R16, R18, R106). -/
def ClientEntry.without (i : StreamId) (e : ClientEntry) : ClientEntry :=
  { e with subscriptions := e.subscriptions.filter (fun x => x != i) }

theorem State.withdrawn_findEntry (s : State) (p : ClientId × StreamId) (c : ClientId) :
    (s.withdrawn p).findEntry c = (s.updateEntry p.1 (ClientEntry.without p.2)).findEntry c := rfl

theorem ClientEntry.without_listens (e : ClientEntry) (i j : StreamId) :
    (e.without i).listens j = (e.listens j && j != i) := by
  rw [Bool.eq_iff_iff]
  simp [ClientEntry.listens, ClientEntry.without, and_assoc]

theorem State.withdrawn_streamsOrdered {s : State} (h : s.streamsOrdered) {p : ClientId × StreamId} {e : ClientEntry}
    (found : s.findEntry p.1 = some e) (listens : e.listens p.2 = true) : (s.withdrawn p).streamsOrdered := by
  obtain ⟨listeners, catalogued, clients⟩ := (State.streamsOrdered_iff s).mp h
  have heard : 0 < listeners p.2 := by
    rw [← clients.count p.2]
    exact List.countP_pos_iff.mpr ⟨e, State.findEntry_mem found, listens⟩
  refine (State.streamsOrdered_iff _).mpr ⟨oneFewer listeners p.2, catalogued.lower (Nat.pos_iff_ne_zero.mp heard), ?_⟩
  refine clients.update (f := ClientEntry.without p.2) found (fun _ => rfl)
    ((clients.apart e (State.findEntry_mem found)).filter _) fun j => ?_
  rw [ClientEntry.without_listens]
  by_cases same : j = p.2
  · subst same
    rw [oneFewer_self, listens]
    simp
    omega
  · rw [oneFewer_other _ same]
    simp [same]

/-- The subscriptions that a withdrawal leaves stand as they stood. -/
theorem State.withdrawn_find {s : State} {p q : ClientId × StreamId} (other : q ≠ p) {e : ClientEntry}
    (found : s.findEntry q.1 = some e) (listens : e.listens q.2 = true) :
    ∃ e', (s.withdrawn p).findEntry q.1 = some e' ∧ e'.listens q.2 = true := by
  rw [State.withdrawn_findEntry]
  by_cases client : q.1 = p.1
  · have stream : q.2 ≠ p.2 := fun same => other (Prod.ext client same)
    rw [client, State.findEntry_updateEntry_self (f := ClientEntry.without p.2) _ _ fun _ => rfl, ← client, found]
    exact ⟨_, rfl, by rw [ClientEntry.without_listens, listens]; simpa using stream⟩
  · rw [State.findEntry_updateEntry_other (f := ClientEntry.without p.2) _ (fun _ => rfl) client]
    exact ⟨e, found, listens⟩

theorem State.foldl_withdrawn_streamsOrdered {s : State} (h : s.streamsOrdered) {l : List (ClientId × StreamId)}
    (apart : l.Nodup) (listens : ∀ p ∈ l, ∃ e, s.findEntry p.1 = some e ∧ e.listens p.2 = true) :
    (l.foldl State.withdrawn s).streamsOrdered := by
  induction l generalizing s with
  | nil => exact h
  | cons p l ih =>
    obtain ⟨new, apart⟩ := List.nodup_cons.mp apart
    obtain ⟨e, found, heard⟩ := listens p List.mem_cons_self
    refine ih (State.withdrawn_streamsOrdered h found heard) apart fun q hq => ?_
    obtain ⟨e', found', heard'⟩ := listens q (List.mem_cons_of_mem _ hq)
    exact State.withdrawn_find (fun same => new (same ▸ hq)) found' heard'

theorem ListenerMove.keeps_streamsOrdered {s t : State} (h : s.streamsOrdered) (m : ListenerMove s t) : t.streamsOrdered := by
  obtain ⟨listeners, catalogued, clients⟩ := (State.streamsOrdered_iff s).mp h
  cases m with
  | remove c => exact State.removeEntry_streamsOrdered h c
  | endReservation e peer =>
    have removed := State.removeEntry_streamsOrdered h e.id
    rw [State.streamsOrdered_iff] at removed ⊢
    simpa [State.endReservation] using removed
  | withdraw l listens =>
    obtain ⟨apart, heard⟩ := listens ⟨clients.ids_apart, clients.apart⟩
    exact State.foldl_withdrawn_streamsOrdered h apart heard
  | subscribe c i e v found counted new place started raises =>
    refine (State.streamsOrdered_iff _).mpr ⟨oneMore listeners i, raises.keeps_catalogued catalogued, ?_⟩
    have apart := clients.apart e (State.findEntry_mem found)
    refine clients.update (f := fun e => { e with subscriptions := e.subscriptions ++ [i] }) found (fun _ => rfl)
      (List.nodup_append.mpr ⟨apart, List.nodup_singleton _, fun x hx y hy e => new (List.mem_singleton.mp hy ▸ e ▸ hx)⟩)
      fun j => ?_
    by_cases same : j = i
    · subst same
      rw [oneMore_self]
      simp [ClientEntry.listens, counted, new]
    · rw [oneMore_other _ same]
      simp [ClientEntry.listens, counted, same]

theorem State.insertStream_catalogued {s : State} {listeners : StreamId → Nat} (h : Catalogued s.ru.catalogue listeners)
    {i : StreamId} (tier : Tier) (fill : Fill) (now : Time) (new : s.findStream i = none) :
    Catalogued (s.insertStream (.fresh i tier fill now)).ru.catalogue listeners := by
  have absent : ∀ x ∈ s.ru.catalogue, x.id ≠ i := by simpa [State.findStream] using new
  have silent : listeners i = 0 := by
    by_contra heard
    obtain ⟨x, hx, same⟩ := h.named i heard
    exact absent x hx same
  have sound : (StreamEntry.fresh i tier fill now).Sound :=
    ⟨iff_of_false (fun h => h.elim nofun nofun) fun h => h rfl, nofun, iff_of_true rfl rfl, nofun⟩
  unfold State.insertStream
  split
  · rename_i room
    exact h.insert room silent rfl sound rfl absent
  · split
    · rename_i old oldest
      obtain ⟨old_mem, dormant⟩ := List.mem_filter.mp (minBy_spec oldest).1
      have gone : listeners old.id = 0 := by
        rw [← h.count old old_mem]
        by_contra heard
        have := (h.sound old old_mem).counted.mpr heard
        rw [eq_of_beq dormant] at this
        exact this.elim nofun nofun
      have left : Catalogued (s.ru.catalogue.filter (fun e => e.id != old.id)) listeners :=
        h.filter fun e _ same => by rw [show e.id = old.id by simpa using same]; exact gone
      refine left.insert (lt_of_lt_of_le ?_ h.places) silent rfl sound rfl fun x hx => absent x (List.mem_filter.mp hx).1
      exact List.length_filter_lt_length_iff_exists.mpr ⟨old, old_mem, by simp⟩
    · exact h

theorem ReplayMove.keeps_catalogued {s t : State} {listeners : StreamId → Nat} (h : Catalogued s.ru.catalogue listeners)
    (clients : Listeners s.au.clients listeners) (m : ReplayMove s t) : Catalogued t.ru.catalogue listeners := by
  have silent {i : StreamId} (unheard : ∀ e ∈ s.au.clients, e.listens i = false) : listeners i = 0 := by
    rw [← clients.count i, List.countP_eq_zero]
    exact fun e he => by rw [unheard e he]; exact nofun
  cases m with
  | insert i tier fill now new => exact State.insertStream_catalogued h tier fill now new
  | reannounce i tier fill now => exact h.change_steady fun e _ => e.steady_reannounced tier fill now
  | cache i e g => exact h.change_steady fun e _ => e.steady_cache g
  | slot v running left starts => exact starts.keeps_catalogued h
  | cycleEnd v running ends => exact ends.keeps_catalogued h
  | reset v started resets => exact resets.keeps_catalogued h
  | delete i unheard =>
    exact h.filter fun e _ same => by rw [show e.id = i by simpa using same]; exact silent unheard
  | ending i e unheard found used =>
    refine h.change_steady fun x found' => ?_
    have count : x.subscribers = 0 := by
      rw [h.count x (List.mem_of_find?_eq_some found'), show x.id = i by simpa using List.find?_some found']
      exact silent unheard
    have same : x = e := Option.some.inj (found'.symm.trans found)
    refine ⟨rfl, rfl, .inr rfl, fun sound => ⟨iff_of_false (fun h => h.elim nofun nofun) fun h => h count, fun _ => rfl, ?_,
      sound.small⟩⟩
    exact iff_of_false (fun none => used (same ▸ sound.group.mp none)) nofun

/-! ## The changes -/

theorem State.streamsOrdered.of_same {s t : State} (h : s.streamsOrdered) (au : t.au = s.au)
    (catalogue : t.ru.catalogue = s.ru.catalogue) : t.streamsOrdered := by
  rw [State.streamsOrdered_iff] at h ⊢
  rwa [au, catalogue]

theorem Move.keeps_streamsOrdered {s t : State} (h : s.streamsOrdered) (m : Move s t) : t.streamsOrdered := by
  cases m with
  | client m =>
    obtain ⟨listeners, catalogued, clients⟩ := (State.streamsOrdered_iff s).mp h
    exact (State.streamsOrdered_iff t).mpr ⟨listeners, by rw [m.frame]; exact catalogued, m.keeps_listeners clients⟩
  | listener m => exact m.keeps_streamsOrdered h
  | replay m =>
    obtain ⟨listeners, catalogued, clients⟩ := (State.streamsOrdered_iff s).mp h
    exact (State.streamsOrdered_iff t).mpr ⟨listeners, m.keeps_catalogued catalogued clients, by rw [m.frame]; exact clients⟩
  | drawn => exact h
  | radio m => rw [m.frame]; exact h
  | counter m => rw [m.frame.1]; exact h
  | bus m => rw [m.frame.1]; exact h
  | peer m => rw [m.frame.1]; exact h
  | seat m => exact h

theorem Change.keeps_streamsOrdered {s t : State} (h : s.streamsOrdered) (change : Change s t) : t.streamsOrdered := by
  cases change with
  | move m => exact m.keeps_streamsOrdered h
  | time dt => exact h
  | commands rest => exact h
  | reset quiet ready strap =>
    obtain ⟨-, -, -, au, ru, -⟩ := State.readStrap_frame (s.powerOn quiet ready) strap
    rw [State.streamsOrdered_iff, au, ru]
    exact ⟨fun _ => 0, ⟨Nat.zero_le _, .nil, fun _ h => absurd rfl h, nofun, nofun, nofun⟩, .nil, nofun, fun _ => rfl⟩
  | listen p => exact h.of_same (by simp) (by simp)
  | crowded p => exact h
  | boundary next due => exact h
  | listened => exact h.of_same (by simp) (by simp)

end Sys2Proof.Machine

open Sys2Proof Sys2Proof.Machine

/-- Settles O58: a stream's count moves with the entries that list it, by one for each, and its activity and group with its count. -/
theorem stepKeepsStreamsOrdered : Obligations.StepKeepsStreamsOrdered := by
  unfold Obligations.StepKeepsStreamsOrdered
  intro s t h next
  exact step_keeps (P := State.streamsOrdered) (fun _ _ h c => c.keeps_streamsOrdered h) h next

end

section
/-! SUPPORT. The segment cache: what each change keeps of its order (R115, R116, R125 to R130). -/

namespace Sys2Proof.Machine

/-! ## The wrap-aware order -/

theorem ahead_self (q : Sequence) : ahead q q = 0 := by
  unfold ahead
  bv_omega

theorem ahead_eq_zero {q x : Sequence} (h : ahead q x = 0) : x = q := by
  unfold ahead at h
  bv_omega

/-- Past the next sequence, everything ahead is one nearer. -/
theorem ahead_succ {q x : Sequence} (h : ahead q x ≠ 0) : ahead (q + 1) x + 1 = ahead q x := by
  unfold ahead at *
  bv_omega

/-- From a sequence that lies ahead, what lies no nearer. -/
theorem ahead_from {q g x : Sequence} (h : ahead q g ≤ ahead q x) : ahead g x + ahead q g = ahead q x := by
  unfold ahead at *
  bv_omega

theorem late_succ (q : Sequence) : late (q + 1) q = true := by
  unfold late
  rw [decide_eq_true_iff]
  bv_omega

theorem late_of_ahead {a g : Sequence} (h : ahead (a + 1) g < 32768) : late g a = true := by
  unfold ahead at h
  unfold late
  rw [decide_eq_true_iff]
  bv_omega

theorem ahead_of_not_late {q x : Sequence} (h : late q x = false) : ahead q x < 32768 := by
  unfold late at h
  unfold ahead
  rw [decide_eq_false_iff_not] at h
  bv_omega

/-! ## What the Replay Unit does to a stream's cache -/

/-- A changed stream whose cache stays in order. -/
structure StreamEntry.KeepsCache (e e' : StreamEntry) : Prop where
  id : e'.id = e.id
  ordered : e.cacheOrdered → e'.cacheOrdered

theorem StreamEntry.KeepsCache.refl (e : StreamEntry) : StreamEntry.KeepsCache e e := ⟨rfl, fun h => h⟩

/-- A change that leaves the cache as it is, and frees no place. -/
theorem StreamEntry.KeepsCache.of_same {e e' : StreamEntry} (id : e'.id = e.id) (next : e'.next = e.next)
    (aired : e'.aired = e.aired) (unaired : e'.unaired = e.unaired)
    (dormant : e'.activity = .dormant → e.activity = .dormant) : StreamEntry.KeepsCache e e' := by
  refine ⟨id, fun h => ?_⟩
  unfold StreamEntry.cacheOrdered at h ⊢
  rw [next, aired, unaired]
  exact ⟨h.1, h.2.1, fun d => h.2.2.1 (dormant d), h.2.2.2⟩

theorem StreamEntry.cacheOrdered_of_empty {e : StreamEntry} (unaired : e.unaired = []) (aired : e.aired = none)
    (dormant : e.activity = .dormant → e.next = none) : e.cacheOrdered := by
  unfold StreamEntry.cacheOrdered
  rw [unaired, aired]
  refine ⟨Nat.zero_le _, nofun, dormant, ?_⟩
  split
  · exact ⟨rfl, rfl⟩
  · exact ⟨.nil, nofun, nofun⟩

theorem StreamEntry.keepsCache_cleared (e : StreamEntry) : StreamEntry.KeepsCache e e.cleared :=
  ⟨rfl, fun _ => StreamEntry.cacheOrdered_of_empty rfl rfl fun _ => rfl⟩

theorem StreamEntry.keepsCache_freed (e : StreamEntry) : StreamEntry.KeepsCache e e.freed :=
  ⟨rfl, fun h => StreamEntry.cacheOrdered_of_empty rfl rfl h.2.2.1⟩

theorem StreamEntry.keepsCache_lowered (e : StreamEntry) : StreamEntry.KeepsCache e e.lowered := by
  unfold StreamEntry.lowered
  dsimp only
  split
  · split
    · exact ⟨rfl, fun _ => StreamEntry.cacheOrdered_of_empty rfl rfl fun _ => rfl⟩
    · exact .of_same rfl rfl rfl rfl nofun
    · exact .of_same rfl rfl rfl rfl fun h => h
  · exact .of_same rfl rfl rfl rfl fun h => h

theorem StreamEntry.keepsCache_activated (e : StreamEntry) : StreamEntry.KeepsCache e e.activated := by
  unfold StreamEntry.activated
  split
  · exact .of_same rfl rfl rfl rfl nofun
  · exact .refl e

theorem StreamEntry.keepsCache_reannounced (tier : Tier) (fill : Fill) (now : Time) (e : StreamEntry) :
    StreamEntry.KeepsCache e (e.reannounced tier fill now) :=
  .of_same rfl rfl rfl rfl fun h => h

/-- A DORMANT stream caches nothing, so it joins with an empty cache. -/
theorem StreamEntry.keepsCache_joined {e : StreamEntry} (dormant : e.activity = .dormant) (group : Option Nat) :
    StreamEntry.KeepsCache e (e.joined group) := by
  refine ⟨rfl, fun ⟨_, _, unset, cached⟩ => ?_⟩
  rw [unset dormant] at cached
  exact StreamEntry.cacheOrdered_of_empty cached.1 cached.2 nofun

/-- What `due` finds: the next sequence is set, and the segment is unaired with it. -/
theorem StreamEntry.due_some {e : StreamEntry} {g : Segment} (h : e.due = some g) : e.next = some g.seq ∧ g ∈ e.unaired := by
  unfold StreamEntry.due at h
  split at h
  · cases h
  · rename_i q next
    have seq : g.seq = q := by simpa using List.find?_some h
    exact ⟨seq ▸ next, List.mem_of_find?_eq_some h⟩

/-- The cache of a stream whose next sequence is set. -/
structure StreamEntry.CachedFrom (e : StreamEntry) (q : Sequence) : Prop where
  places : e.unaired.length ≤ unairedPlaces
  lengths : ∀ g ∈ e.unaired, 1 ≤ g.data.length ∧ g.data.length ≤ longestSegment
  rising : (e.unaired.map (fun g => ahead q g.seq)).Pairwise (· < ·)
  near : ∀ g ∈ e.unaired, ahead q g.seq < 32768
  aired : ∀ a, e.aired = some a → late q a.seq = true ∧ a.data.length ≤ longestSegment ∧
    (q = a.seq + 1 ∨ (e.unaired.head?.map (·.seq)) = some q)

theorem StreamEntry.cacheOrdered_of_next {e : StreamEntry} {q : Sequence} (next : e.next = some q) :
    e.cacheOrdered ↔ e.CachedFrom q ∧ e.activity ≠ .dormant := by
  unfold StreamEntry.cacheOrdered
  rw [next]
  constructor
  · rintro ⟨places, lengths, dormant, rising, near, aired⟩
    exact ⟨⟨places, lengths, rising, near, aired⟩, fun d => absurd (dormant d) nofun⟩
  · rintro ⟨⟨places, lengths, rising, near, aired⟩, used⟩
    exact ⟨places, lengths, fun d => absurd d used, rising, near, aired⟩

theorem StreamEntry.cacheOrdered_unset {e : StreamEntry} (h : e.cacheOrdered) (next : e.next = none) :
    e.unaired = [] ∧ e.aired = none := by
  obtain ⟨-, -, -, cached⟩ := h
  rwa [next] at cached

/-- The aired segment is no longer than a segment may be. -/
theorem StreamEntry.aired_length {e : StreamEntry} (h : e.cacheOrdered) {g : Segment} (aired : e.aired = some g) :
    g.data.length ≤ longestSegment := by
  match next : e.next with
  | none =>
    rw [(StreamEntry.cacheOrdered_unset h next).2] at aired
    cases aired
  | some q => exact (((StreamEntry.cacheOrdered_of_next next).mp h).1.aired g aired).2.1

theorem StreamEntry.due_length {e : StreamEntry} (h : e.cacheOrdered) {g : Segment} (due : e.due = some g) :
    g.data.length ≤ longestSegment :=
  (h.2.1 g (StreamEntry.due_some due).2).2

theorem StreamEntry.keepsCache_afterAiring {e : StreamEntry} {g : Segment} (due : e.due = some g) :
    StreamEntry.KeepsCache e (e.afterAiring g) := by
  refine ⟨rfl, fun h => ?_⟩
  obtain ⟨next, waits⟩ := StreamEntry.due_some due
  obtain ⟨cached, used⟩ := (StreamEntry.cacheOrdered_of_next next).mp h
  have nearer {x : Segment} (hx : x ∈ e.unaired.filter (fun x => x.seq != g.seq)) :
      ahead (g.seq + 1) x.seq + 1 = ahead g.seq x.seq :=
    ahead_succ fun zero => (by simpa using (List.mem_filter.mp hx).2 : x.seq ≠ g.seq) (ahead_eq_zero zero)
  refine (StreamEntry.cacheOrdered_of_next (q := g.seq + 1) rfl).mpr ⟨⟨?_, fun x hx => ?_, ?_, fun x hx => ?_, ?_⟩, used⟩
  · exact (List.length_filter_le _ _).trans cached.places
  · exact cached.lengths x (List.mem_filter.mp hx).1
  · have rising := (List.pairwise_map.mp cached.rising).filter (fun x => x.seq != g.seq)
    refine List.pairwise_map.mpr (rising.imp_of_mem fun {x y} hx hy less => ?_)
    have := nearer hx
    have := nearer hy
    omega
  · have := nearer hx
    have := cached.near x (List.mem_filter.mp hx).1
    omega
  · rintro a ⟨⟩
    exact ⟨late_succ _, StreamEntry.due_length h due, .inl rfl⟩

/-- At a resync the first unaired segment is next: the others lie ahead of it, and the aired one behind. -/
theorem StreamEntry.CachedFrom.resync {e : StreamEntry} {q : Sequence} (h : e.CachedFrom q) {g : Segment} {rest : List Segment}
    (unaired : e.unaired = g :: rest) (run : Nat) :
    StreamEntry.CachedFrom { e with next := some g.seq, underrunRun := run } g.seq := by
  have rising := h.rising
  rw [unaired, List.map_cons, List.pairwise_cons] at rising
  obtain ⟨first, rising⟩ := rising
  have from_first {x : Segment} (hx : x ∈ e.unaired) : ahead g.seq x.seq + ahead q g.seq = ahead q x.seq := by
    refine ahead_from ?_
    rw [unaired] at hx
    obtain rfl | hx := List.mem_cons.mp hx
    · exact Nat.le_refl _
    · exact (first _ (List.mem_map_of_mem (f := fun x : Segment => ahead q x.seq) hx)).le
  have first_near := h.near g (unaired ▸ List.mem_cons_self)
  refine ⟨h.places, h.lengths, ?_, fun x hx => ?_, fun a aired => ?_⟩
  · refine List.pairwise_map.mpr ((List.pairwise_map.mp h.rising).imp_of_mem fun {x y} hx hy less => ?_)
    have := from_first hx
    have := from_first hy
    omega
  · have := from_first hx
    have := h.near x hx
    omega
  · obtain ⟨behind, length, place⟩ := h.aired a aired
    refine ⟨?_, length, .inr (by rw [unaired]; rfl)⟩
    obtain rfl | head := place
    · exact late_of_ahead first_near
    · rw [unaired] at head
      rw [show g.seq = q from Option.some.inj head]
      exact behind

theorem StreamEntry.keepsCache_afterUnderrun (e : StreamEntry) : StreamEntry.KeepsCache e e.afterUnderrun := by
  unfold StreamEntry.afterUnderrun
  split
  · rename_i g rest unaired
    dsimp only
    split
    · refine ⟨rfl, fun h => ?_⟩
      match next : e.next with
      | none =>
        rw [(StreamEntry.cacheOrdered_unset h next).1] at unaired
        cases unaired
      | some q =>
        obtain ⟨cached, used⟩ := (StreamEntry.cacheOrdered_of_next next).mp h
        exact (StreamEntry.cacheOrdered_of_next rfl).mpr ⟨cached.resync unaired 0, used⟩
    · exact .of_same rfl rfl rfl rfl fun h => h
  · exact .of_same rfl rfl rfl rfl fun h => h

theorem placeBy_length {α : Type} (rank : α → Nat) (x : α) (l : List α) : (placeBy rank x l).length = l.length + 1 :=
  (placeBy_perm rank x l).length_eq

/-- Placed among items of other ranks, in strictly rising order. -/
theorem placeBy_rising {α : Type} {rank : α → Nat} {x : α} {l : List α} (h : (l.map rank).Pairwise (· < ·))
    (other : ∀ y ∈ l, rank y ≠ rank x) : ((placeBy rank x l).map rank).Pairwise (· < ·) := by
  have sorted : (placeBy rank x l).Pairwise (fun a b => rank a ≤ rank b) :=
    placeBy_sorted ((List.pairwise_map.mp h).imp Nat.le_of_lt)
  have apart : ((placeBy rank x l).map rank).Nodup := by
    refine ((placeBy_perm rank x l).map rank).nodup_iff.mpr (List.nodup_cons.mpr ⟨fun hx => ?_, nodup_of_rising h⟩)
    obtain ⟨y, hy, same⟩ := List.mem_map.mp hx
    exact other y hy same
  have both := List.pairwise_map.mpr sorted
  exact (both.and apart).imp fun ⟨le, ne⟩ => lt_of_le_of_ne le ne

theorem StreamEntry.keepsCache_cache {e : StreamEntry} {g : Segment}
    (length : 1 ≤ g.data.length ∧ g.data.length ≤ longestSegment) (wanted : e.wanted = true)
    (kept : e.discards g.seq = false) : StreamEntry.KeepsCache e (e.cache g) := by
  refine ⟨rfl, fun h => ?_⟩
  simp only [StreamEntry.discards, Bool.or_eq_false_iff, decide_eq_false_iff_not, Nat.not_le, List.any_eq_false,
    beq_iff_eq] at kept
  obtain ⟨⟨timely, new⟩, place⟩ := kept
  have used : e.activity ≠ .dormant := by
    intro dormant
    rw [StreamEntry.wanted, dormant] at wanted
    cases wanted
  match next : e.next with
  | none =>
    obtain ⟨unaired, aired⟩ := StreamEntry.cacheOrdered_unset h next
    refine (StreamEntry.cacheOrdered_of_next (q := g.seq) (by rw [StreamEntry.cache, next]; rfl)).mpr ⟨?_, used⟩
    have only : (e.cache g).unaired = [g] := by rw [StreamEntry.cache, unaired]; rfl
    refine ⟨?_, fun x hx => ?_, ?_, fun x hx => ?_, fun a airs => ?_⟩
    · rw [only]
      exact Nat.succ_le_succ (Nat.zero_le _)
    · rw [only] at hx
      rwa [List.mem_singleton.mp hx]
    · rw [only]
      exact List.pairwise_singleton _ _
    · rw [only] at hx
      rw [List.mem_singleton.mp hx, ahead_self]
      decide
    · exact absurd (aired.symm.trans airs) nofun
  | some q =>
    obtain ⟨cached, -⟩ := (StreamEntry.cacheOrdered_of_next next).mp h
    have unaired : (e.cache g).unaired = placeBy (fun x => ahead q x.seq) g e.unaired := by
      simp only [StreamEntry.cache, next]
      rfl
    have near : ahead q g.seq < 32768 := ahead_of_not_late (by rw [next] at timely; exact timely)
    have other (x : Segment) (hx : x ∈ e.unaired) : ahead q x.seq ≠ ahead q g.seq := fun same =>
      new x hx (by unfold ahead at same; bv_omega)
    have mem {x : Segment} (hx : x ∈ (e.cache g).unaired) : x = g ∨ x ∈ e.unaired := by
      rw [unaired] at hx
      exact List.mem_cons.mp ((placeBy_perm _ g e.unaired).mem_iff.mp hx)
    refine (StreamEntry.cacheOrdered_of_next (q := q) (by rw [StreamEntry.cache, next]; rfl)).mpr ⟨?_, used⟩
    refine ⟨?_, fun x hx => ?_, ?_, fun x hx => ?_, fun a airs => ?_⟩
    · rw [unaired, placeBy_length]
      exact place
    · obtain rfl | hx := mem hx
      · exact length
      · exact cached.lengths x hx
    · rw [unaired]
      exact placeBy_rising cached.rising other
    · obtain rfl | hx := mem hx
      · exact near
      · exact cached.near x hx
    · obtain ⟨behind, short, place⟩ := cached.aired a airs
      refine ⟨behind, short, place.imp_right fun head => ?_⟩
      obtain ⟨first, isFirst, seq⟩ := Option.map_eq_some_iff.mp head
      obtain ⟨rest, list⟩ := List.head?_eq_some_iff.mp isFirst
      have zero : ahead q first.seq = 0 := by rw [seq, ahead_self]
      have farther : ¬ ahead q g.seq ≤ ahead q first.seq := fun le =>
        other first (list ▸ List.mem_cons_self) (by omega)
      rw [unaired, list, placeBy, if_neg farther]
      exact congrArg some seq

theorem StreamEntry.keepsCache_rejoined {e : StreamEntry} (aired : e.aired = none) (unaired : e.unaired = []) :
    StreamEntry.KeepsCache e e.rejoined := by
  unfold StreamEntry.rejoined
  split
  · exact .refl e
  · exact ⟨rfl, fun _ => StreamEntry.cacheOrdered_of_empty unaired aired nofun⟩

/-! ## The catalogue -/

/-- The catalogue stands in rising order, and every stream's cache is in order. -/
structure CachesOrdered (cat : List StreamEntry) : Prop where
  rising : (cat.map (·.id)).Pairwise (· < ·)
  ordered : ∀ e ∈ cat, e.cacheOrdered

theorem CachesOrdered.filterMap {cat : List StreamEntry} (h : CachesOrdered cat) {g : StreamEntry → Option StreamEntry}
    (keeps : ∀ e ∈ cat, ∀ e', g e = some e' → StreamEntry.KeepsCache e e') : CachesOrdered (cat.filterMap g) where
  rising := by
    refine List.pairwise_map.mpr (List.pairwise_filterMap.mpr ?_)
    refine (List.pairwise_map.mp h.rising).imp_of_mem fun {a b} ha hb less a' same b' same' => ?_
    rw [(keeps a ha a' same).id, (keeps b hb b' same').id]
    exact less
  ordered e' he' := by
    obtain ⟨e, he, same⟩ := List.mem_filterMap.mp he'
    exact (keeps e he e' same).ordered (h.ordered e he)

theorem CachesOrdered.map {cat : List StreamEntry} (h : CachesOrdered cat) {f : StreamEntry → StreamEntry}
    (keeps : ∀ e ∈ cat, StreamEntry.KeepsCache e (f e)) : CachesOrdered (cat.map f) := by
  rw [← List.filterMap_eq_map]
  exact h.filterMap fun e he e' same => Option.some.inj same ▸ keeps e he

theorem CachesOrdered.filter {cat : List StreamEntry} (h : CachesOrdered cat) (p : StreamEntry → Bool) :
    CachesOrdered (cat.filter p) :=
  ⟨h.rising.sublist (List.filter_sublist.map _), fun e he => h.ordered e (List.mem_filter.mp he).1⟩

theorem CachesOrdered.change {cat : List StreamEntry} (h : CachesOrdered cat) {i : StreamId} {f : StreamEntry → StreamEntry}
    (keeps : ∀ e, cat.find? (fun e => e.id == i) = some e → StreamEntry.KeepsCache e (f e)) :
    CachesOrdered (cat.map (fun e => if e.id == i then f e else e)) := by
  refine h.map fun x hx => ?_
  split
  · rename_i same
    obtain ⟨e, found⟩ := Option.isSome_iff_exists.mp
      ((List.find?_isSome (p := fun e : StreamEntry => e.id == i)).mpr ⟨x, hx, same⟩)
    rw [eq_of_find (nodup_of_rising h.rising) found hx (eq_of_beq same)]
    exact keeps e found
  · exact .refl x

theorem CachesOrdered.change_all {cat : List StreamEntry} (h : CachesOrdered cat) (i : StreamId) {f : StreamEntry → StreamEntry}
    (keeps : ∀ e, StreamEntry.KeepsCache e (f e)) : CachesOrdered (cat.map (fun e => if e.id == i then f e else e)) :=
  h.change fun e _ => keeps e

theorem CachesOrdered.clearLeaving {cat : List StreamEntry} (h : CachesOrdered cat) : CachesOrdered (clearLeaving cat) := by
  refine h.filterMap fun e _ e' same => ?_
  split at same
  · split at same
    · cases same
    · cases same
      exact e.keepsCache_cleared
  · cases same
    exact .refl e

/-! ## The changes -/

theorem SlotStarts.keeps_caches {v w : ReplayUnit} {k : Nat} (h : CachesOrdered v.catalogue) (m : SlotStarts v k w) :
    CachesOrdered w.catalogue := by
  cases m with
  | idle => exact h
  | airs e g found active due =>
    exact h.change fun x found' => by
      rw [Option.some.inj (found'.symm.trans found)]
      exact StreamEntry.keepsCache_afterAiring due
  | underruns e n => exact h.change_all e.id StreamEntry.keepsCache_afterUnderrun

theorem ReplayUnit.cycleStarted_caches {v : ReplayUnit} (h : CachesOrdered v.catalogue) (offset : Nat → Nat) (now : Time) :
    CachesOrdered (v.cycleStarted offset now).catalogue :=
  h.map fun e _ => e.keepsCache_activated

theorem ReplayUnit.emptied_caches {v : ReplayUnit} (h : CachesOrdered v.catalogue) : CachesOrdered v.emptied.catalogue := by
  refine (h.map fun e _ => e.keepsCache_freed).clearLeaving.map fun e he => ?_
  obtain ⟨x, hx, same⟩ := List.mem_filterMap.mp he
  obtain ⟨y, -, rfl⟩ := List.mem_map.mp hx
  split at same
  · split at same
    · cases same
    · cases same
      exact StreamEntry.keepsCache_rejoined rfl rfl
  · cases same
    exact StreamEntry.keepsCache_rejoined rfl rfl

theorem CachesOrdered.join {v : ReplayUnit} (h : CachesOrdered v.catalogue) {i : StreamId} {e : StreamEntry}
    (found : v.find i = some e) (dormant : e.activity = .dormant) (group : Option Nat) :
    CachesOrdered (v.change i (StreamEntry.joined group)).catalogue :=
  h.change fun x found' => by
    rw [Option.some.inj (found'.symm.trans found)]
    exact StreamEntry.keepsCache_joined dormant group

theorem Raises.keeps_caches {v w : ReplayUnit} {i : StreamId} {now : Time} (h : CachesOrdered v.catalogue)
    (m : Raises v i now w) : CachesOrdered w.catalogue := by
  cases m with
  | start e group w found dormant none_counted free small stopped starts =>
    exact starts.keeps_caches (ReplayUnit.cycleStarted_caches (h.join found dormant _) _ _)
  | join e group found dormant => exact h.join found dormant _
  | revive e found => exact h.change_all i fun e => .of_same rfl rfl rfl rfl nofun
  | more e found => exact h.change_all i fun e => .of_same rfl rfl rfl rfl fun h => h

theorem State.insertStream_caches {s : State} (h : CachesOrdered s.ru.catalogue) (i : StreamId) (tier : Tier) (fill : Fill)
    (now : Time) : CachesOrdered (s.insertStream (.fresh i tier fill now)).ru.catalogue := by
  have put {cat : List StreamEntry} (h : CachesOrdered cat) :
      CachesOrdered (putBy (fun x => x.id) (StreamEntry.fresh i tier fill now) cat) := by
    refine ⟨putBy_sorted _ h.rising, fun x hx => ?_⟩
    obtain rfl | hx := mem_putBy hx
    · exact StreamEntry.cacheOrdered_of_empty rfl rfl fun _ => rfl
    · exact h.ordered x hx
  unfold State.insertStream
  split
  · exact put h
  · split
    · exact put (h.filter _)
    · exact h

theorem CycleEnds.keeps_caches {v w : ReplayUnit} {n : Nat} {now : Time} (h : CachesOrdered v.catalogue)
    (m : CycleEnds v n now w) : CachesOrdered w.catalogue := by
  cases m with
  | stop none_left => exact h.clearLeaving
  | restart w some_left starts => exact starts.keeps_caches (ReplayUnit.cycleStarted_caches h.clearLeaving _ _)

theorem ReplayResets.keeps_caches {v w : ReplayUnit} {now : Time} (h : CachesOrdered v.catalogue) (m : ReplayResets v now w) :
    CachesOrdered w.catalogue := by
  cases m with
  | stop none_left => exact ReplayUnit.emptied_caches h
  | restart w some_left starts =>
    exact starts.keeps_caches (ReplayUnit.cycleStarted_caches (ReplayUnit.emptied_caches h) _ _)

theorem ReplayMove.keeps_caches {s t : State} (h : CachesOrdered s.ru.catalogue) (m : ReplayMove s t) :
    CachesOrdered t.ru.catalogue := by
  cases m with
  | insert i tier fill now => exact State.insertStream_caches h i tier fill now
  | reannounce i tier fill now => exact h.change_all i fun e => e.keepsCache_reannounced tier fill now
  | cache i e g length found wanted kept =>
    exact h.change fun x found' => by
      rw [Option.some.inj (found'.symm.trans found)]
      exact StreamEntry.keepsCache_cache length wanted kept
  | slot v running left starts => exact starts.keeps_caches h
  | cycleEnd v running ends => exact ends.keeps_caches h
  | reset v started resets => exact resets.keeps_caches h
  | delete i => exact h.filter _
  | ending i e => exact h.change_all i fun e => .of_same rfl rfl rfl rfl nofun

/-- What holds of a Replay Unit and is kept when a count falls is kept when an entry or some of its streams go. -/
theorem State.foldl_lowerCount_induct {P : ReplayUnit → Prop} (lowered : ∀ v i, P v → P (v.change i StreamEntry.lowered))
    {s : State} (h : P s.ru) (l : List StreamId) : P (l.foldl State.lowerCount s).ru := by
  induction l generalizing s with
  | nil => exact h
  | cons i l ih => exact ih (lowered s.ru i h)

theorem ListenerMove.ru_induct {P : ReplayUnit → Prop} (lowered : ∀ v i, P v → P (v.change i StreamEntry.lowered)) {s t : State}
    (h : P s.ru) (m : ListenerMove s t) (raised : ∀ i v, s.sl.nodeState ≠ .starting → Raises s.ru i s.now v → P v) :
    P t.ru := by
  have removed (c : ClientId) : P (s.removeEntry c).ru := by
    unfold State.removeEntry
    split
    · exact h
    · split
      · exact State.foldl_lowerCount_induct lowered
          (s := s.setAu { s.au with clients := s.au.clients.filter (fun x => x.id != c) }) h _
      · exact h
  cases m with
  | remove c => exact removed c
  | endReservation e peer =>
    rw [State.endReservation, State.insertSighting_eq]
    exact removed e.id
  | withdraw l =>
    have fold (l : List (ClientId × StreamId)) (u : State) (h : P u.ru) : P (l.foldl State.withdrawn u).ru := by
      induction l generalizing u with
      | nil => exact h
      | cons p l ih => exact ih _ (lowered u.ru p.2 h)
    exact fold l s h
  | subscribe c i e v found counted new place started raises => exact raised i v started raises

theorem Change.keeps_cacheOrdered {s t : State} (h : CachesOrdered s.ru.catalogue) (change : Change s t) :
    CachesOrdered t.ru.catalogue := by
  cases change with
  | move m =>
    cases m with
    | listener m =>
      exact m.ru_induct (P := fun v => CachesOrdered v.catalogue)
        (fun v i h => h.change_all i StreamEntry.keepsCache_lowered) h fun i v _ raises => raises.keeps_caches h
    | replay m => exact m.keeps_caches h
    | drawn => exact h
    | radio m => rw [m.frame]; exact h
    | counter m => rw [m.frame.1]; exact h
    | bus m => rw [m.frame.1]; exact h
    | peer m => rw [m.frame.1]; exact h
    | seat m => exact h
    | client m => rw [m.frame]; exact h
  | time dt => exact h
  | commands rest => exact h
  | reset quiet ready strap =>
    rw [(State.readStrap_frame _ strap).2.2.2.2.1]
    exact ⟨.nil, nofun⟩
  | listen p => simpa using h
  | crowded p => exact h
  | boundary next due => exact h
  | listened => simpa using h

theorem State.cacheOrdered_iff (s : State) : s.cacheOrdered ↔ CachesOrdered s.ru.catalogue :=
  ⟨fun ⟨rising, ordered⟩ => ⟨rising, ordered⟩, fun h => ⟨h.rising, h.ordered⟩⟩

end Sys2Proof.Machine
end

section
/-! SUPPORT. The replay cycle: what each change keeps of its order (R121 to R124, R132, R134). -/

namespace Sys2Proof.Machine

/-! ## The order, in parts -/

/-- The cycle's part of the order, under N slots. -/
structure ReplayUnit.Cycled (v : ReplayUnit) (slots : Nat) : Prop where
  occupancy : v.occupancy ≤ 100
  offset : v.cycle.offset ≤ 7
  named : ∀ i, some i ∈ v.cycle.active → ∃ e ∈ v.catalogue, e.id = i
  stopped : v.cycle.running = false →
    v.cycle.active = [] ∧ v.cycle.slot = none ∧ v.cycle.units = 0 ∧ v.occupancy = 0 ∧
      ∀ e ∈ v.catalogue, e.activity = .dormant
  running : v.cycle.running = true →
    v.cycle.offset < v.cycle.active.length ∧ v.cycle.active.length ≤ 8 ∧
      ∃ k, v.cycle.slot = some k ∧ k < slots ∧ v.cycle.units ≤ 8 * (k + 1)

theorem State.cycleOrdered_iff (s : State) :
    s.cycleOrdered ↔ (2 ≤ s.par.slots ∧ s.par.slots ≤ 32) ∧ s.ru.Cycled s.par.slots ∧
      (s.ru.cycle.running = true → s.sl.nodeState ≠ .starting) := by
  constructor
  · rintro ⟨slots, occupancy, offset, named, stopped, running⟩
    exact ⟨slots, ⟨occupancy, offset, named, stopped, fun r => (running r).2⟩, fun r => (running r).1⟩
  · rintro ⟨slots, ⟨occupancy, offset, named, stopped, running⟩, started⟩
    exact ⟨slots, occupancy, offset, named, stopped, fun r => ⟨started r, running r⟩⟩

/-- A change of the catalogue that keeps its IDs, and its DORMANT streams while the cycle is STOPPED. -/
theorem ReplayUnit.Cycled.of_catalogue {v : ReplayUnit} {slots : Nat} (h : v.Cycled slots) {cat : List StreamEntry}
    (ids : ∀ e ∈ v.catalogue, ∃ e' ∈ cat, e'.id = e.id)
    (dormant : v.cycle.running = false → (∀ e ∈ v.catalogue, e.activity = .dormant) → ∀ e ∈ cat, e.activity = .dormant) :
    ReplayUnit.Cycled { v with catalogue := cat } slots where
  occupancy := h.occupancy
  offset := h.offset
  named i hi := by
    obtain ⟨e, he, rfl⟩ := h.named i hi
    exact ids e he
  stopped stops := by
    obtain ⟨active, slot, units, occupancy, all⟩ := h.stopped stops
    exact ⟨active, slot, units, occupancy, dormant stops all⟩
  running := h.running

theorem changed_ids {cat : List StreamEntry} {i : StreamId} {f : StreamEntry → StreamEntry} (id : ∀ e, (f e).id = e.id) :
    ∀ e ∈ cat, ∃ e' ∈ cat.map (fun e => if e.id == i then f e else e), e'.id = e.id := by
  intro e he
  refine ⟨_, List.mem_map_of_mem he, ?_⟩
  split
  · exact id e
  · rfl

/-- One stream changed, its ID kept. -/
theorem ReplayUnit.Cycled.change {v : ReplayUnit} {slots : Nat} (h : v.Cycled slots) {i : StreamId}
    {f : StreamEntry → StreamEntry} (id : ∀ e, (f e).id = e.id)
    (dormant : v.cycle.running = false → ∀ e, e.activity = .dormant → (f e).activity = .dormant) :
    (v.change i f).Cycled slots := by
  refine h.of_catalogue (changed_ids id) fun stops all e' he' => ?_
  obtain ⟨e, he, rfl⟩ := List.mem_map.mp he'
  split
  · exact dormant stops e (all e he)
  · exact all e he

/-- One stream that is not DORMANT changed: the cycle runs. -/
theorem ReplayUnit.Cycled.change_used {v : ReplayUnit} {slots : Nat} (h : v.Cycled slots) {i : StreamId} {e : StreamEntry}
    (found : v.find i = some e) (used : e.activity ≠ .dormant) {f : StreamEntry → StreamEntry}
    (id : ∀ e, (f e).id = e.id) : (v.change i f).Cycled slots := by
  refine h.change id fun stops => ?_
  obtain ⟨-, -, -, -, all⟩ := h.stopped stops
  exact absurd (all e (List.mem_of_find?_eq_some found)) used

/-! ## Slots -/

theorem Segment.units_le {g : Segment} (h : g.data.length ≤ longestSegment) : g.units ≤ 8 := by
  have : longestSegment = 1408 := rfl
  unfold Segment.units
  omega

/-- A slot start adds at most 8 units, and changes no stream's ID or activity. -/
theorem SlotStarts.spec {v w : ReplayUnit} {k : Nat} (caches : CachesOrdered v.catalogue) (m : SlotStarts v k w) :
    (∃ n ≤ 8, w.cycle = { v.cycle with slot := some k, units := v.cycle.units + n }) ∧ w.occupancy = v.occupancy ∧
      ∀ e ∈ v.catalogue, ∃ e' ∈ w.catalogue, e'.id = e.id := by
  cases m with
  | idle => exact ⟨⟨0, Nat.zero_le _, rfl⟩, rfl, fun e he => ⟨e, he, rfl⟩⟩
  | airs e g found active due =>
    have ordered := caches.ordered e (List.mem_of_find?_eq_some found)
    exact ⟨⟨g.units, Segment.units_le (StreamEntry.due_length ordered due), rfl⟩, rfl, changed_ids fun _ => rfl⟩
  | underruns e n found active fill =>
    have ordered := caches.ordered e (List.mem_of_find?_eq_some found)
    refine ⟨⟨n, ?_, rfl⟩, rfl, changed_ids fun e => (e.steady_afterUnderrun).id⟩
    obtain rfl | ⟨g, aired, rfl⟩ := fill
    · exact Nat.zero_le _
    · exact Segment.units_le (StreamEntry.aired_length ordered aired)

/-- A slot of the running cycle starts. -/
theorem SlotStarts.keeps_cycled {v w : ReplayUnit} {slots k : Nat} (h : v.Cycled slots) (caches : CachesOrdered v.catalogue)
    (runs : v.cycle.running = true) (next : k = v.cycle.slot.elim 0 (· + 1)) (left : k < slots) (m : SlotStarts v k w) :
    w.Cycled slots := by
  obtain ⟨⟨n, few, cycle⟩, occupancy, ids⟩ := m.spec caches
  obtain ⟨offset, places, j, slot, -, units⟩ := h.running runs
  rw [slot, Option.elim_some] at next
  refine ⟨by rw [occupancy]; exact h.occupancy, by rw [cycle]; exact h.offset, fun i hi => ?_, fun stops => ?_, fun _ => ?_⟩
  · rw [cycle] at hi
    obtain ⟨e, he, rfl⟩ := h.named i hi
    exact ids e he
  · rw [cycle] at stops
    exact absurd (runs.symm.trans stops) nofun
  · rw [cycle]
    refine ⟨offset, places, k, rfl, left, ?_⟩
    dsimp only
    omega

/-! ## Cycle starts -/

/-- Streams with groups of their own, each below 8, are at most 8. -/
theorem Catalogued.length_le {cat : List StreamEntry} {listeners : StreamId → Nat} (h : Catalogued cat listeners)
    {p : StreamEntry → Bool} (used : ∀ e ∈ cat, p e = true → e.activity ≠ .dormant) : (cat.filter p).length ≤ 8 := by
  have group {e : StreamEntry} (he : e ∈ cat.filter p) : ∃ g < 8, e.airGroup = some g := by
    obtain ⟨he, holds⟩ := List.mem_filter.mp he
    have sound := h.sound e he
    obtain ⟨g, held⟩ := Option.ne_none_iff_exists'.mp fun none => used e he holds (sound.group.mp none)
    exact ⟨g, sound.small g held, held⟩
  have apart : ((cat.filter p).map (fun e => e.airGroup.getD 0)).Nodup := by
    have ids := (nodup_of_rising h.rising).sublist ((List.filter_sublist (p := p)).map _)
    refine List.pairwise_map.mpr ((List.pairwise_map.mp ids).imp_of_mem fun {a b} ha hb differ same => differ ?_)
    obtain ⟨g, -, heldA⟩ := group ha
    obtain ⟨g', -, heldB⟩ := group hb
    rw [heldA, heldB] at same
    refine h.groups a (List.mem_filter.mp ha).1 b (List.mem_filter.mp hb).1 ?_ (by rw [heldA]; exact nofun)
    rw [heldA, heldB]
    exact congrArg some same
  have few := (apart.subperm (l₂ := List.range 8) fun g hg => ?_).length_le
  · simpa using few
  · obtain ⟨e, he, rfl⟩ := List.mem_map.mp hg
    obtain ⟨g, small, held⟩ := group he
    rw [held]
    exact List.mem_range.mpr small

theorem ReplayUnit.mem_activeStreams {v : ReplayUnit} {i : StreamId} :
    i ∈ v.activeStreams ↔ ∃ e ∈ v.catalogue, e.activity = .active ∧ e.id = i := by
  simp only [ReplayUnit.activeStreams, List.mem_map, (sortBy_perm _ _).mem_iff, List.mem_filter, beq_iff_eq, and_assoc]

theorem ReplayUnit.activeStreams_length (v : ReplayUnit) :
    v.activeStreams.length = (v.catalogue.filter (fun e => e.activity == .active)).length := by
  rw [ReplayUnit.activeStreams, List.length_map, (sortBy_perm _ _).length_eq]

/-- A cycle that starts with a stream to air, at an offset among the streams. -/
theorem ReplayUnit.cycleStarted_cycled {v w : ReplayUnit} {slots : Nat} {listeners : StreamId → Nat} {offset : Nat → Nat}
    {now : Time} (catalogued : Catalogued v.catalogue listeners) (caches : CachesOrdered v.catalogue)
    (occupancy : v.occupancy ≤ 100) (some_left : ∃ e ∈ v.catalogue, e.counts = true)
    (within : ∀ a, 0 < a → offset a < a) (slots_pos : 0 < slots) (starts : SlotStarts (v.cycleStarted offset now) 0 w) :
    w.Cycled slots := by
  obtain ⟨⟨n, few, cycle⟩, sameOccupancy, ids⟩ := starts.spec (ReplayUnit.cycleStarted_caches caches _ _)
  have catalogued' := ReplayUnit.cycleStarted_catalogued catalogued offset now
  let u : ReplayUnit := { v with catalogue := v.catalogue.map StreamEntry.activated }
  have active : w.cycle.active = u.activeStreams.map some := by rw [cycle]; rfl
  have offsetAt : w.cycle.offset = offset u.activeStreams.length := by rw [cycle]; rfl
  have most : u.activeStreams.length ≤ 8 := by
    rw [ReplayUnit.activeStreams_length]
    exact catalogued'.length_le fun e _ h => by rw [eq_of_beq h]; exact nofun
  have least : 0 < u.activeStreams.length := by
    obtain ⟨e, he, counts⟩ := some_left
    refine List.length_pos_of_mem (ReplayUnit.mem_activeStreams.mpr ⟨e.activated, List.mem_map_of_mem he, ?_, rfl⟩)
    simp only [StreamEntry.counts, Bool.or_eq_true, beq_iff_eq] at counts
    unfold StreamEntry.activated
    split
    · rfl
    · rename_i notJoining
      exact counts.resolve_left notJoining
  refine ⟨by rw [sameOccupancy]; exact occupancy, ?_, fun i hi => ?_, fun stops => ?_, fun _ => ?_⟩
  · have := within _ least
    rw [offsetAt]
    omega
  · rw [active] at hi
    obtain ⟨j, hj, same⟩ := List.mem_map.mp hi
    cases same
    obtain ⟨e, he, -, rfl⟩ := ReplayUnit.mem_activeStreams.mp hj
    exact ids e he
  · rw [cycle] at stops
    cases stops
  · rw [active, List.length_map, offsetAt]
    refine ⟨within _ least, most, 0, by rw [cycle], slots_pos, ?_⟩
    rw [cycle]
    change 0 + n ≤ _
    omega

/-! ## The changes -/

theorem StreamEntry.lowered_dormant {e : StreamEntry} (h : e.activity = .dormant) : e.lowered.activity = .dormant := by
  unfold StreamEntry.lowered
  dsimp only
  split
  · split
    · rfl
    · rename_i active
      exact absurd (h.symm.trans active) nofun
    · exact h
  · exact h

theorem Raises.keeps_cycled {v w : ReplayUnit} {i : StreamId} {now : Time} {slots : Nat} {listeners : StreamId → Nat}
    (h : v.Cycled slots) (catalogued : Catalogued v.catalogue listeners) (caches : CachesOrdered v.catalogue)
    (slots_pos : 0 < slots) (m : Raises v i now w) : w.Cycled slots := by
  cases m with
  | start e group w found dormant none_counted free small stopped starts =>
    refine ReplayUnit.cycleStarted_cycled (catalogued.join found dormant none_counted free small)
      (caches.join found dormant _) h.occupancy ?_ (fun _ h => h) slots_pos starts
    have joined : StreamEntry.joined (some group) e ∈ (v.change i (StreamEntry.joined (some group))).catalogue :=
      List.mem_map.mpr ⟨e, List.mem_of_find?_eq_some found, if_pos (by simpa using List.find?_some found)⟩
    exact ⟨_, joined, rfl⟩
  | join e group found dormant none_counted free small running =>
    exact h.change (fun _ => rfl) fun stops => absurd (running.symm.trans stops) nofun
  | revive e found leaving => exact h.change_used found (by rw [leaving]; exact nofun) fun _ => rfl
  | more e found => exact h.change (fun _ => rfl) fun _ _ h => h

theorem occupancyOf_le {units slots : Nat} (pos : 0 < slots) (h : units ≤ 8 * slots) : occupancyOf units slots ≤ 100 := by
  unfold occupancyOf
  rw [← Nat.lt_succ_iff, Nat.div_lt_iff_lt_mul (by omega)]
  omega

/-- Of the streams that a clearing leaves, those that no cycle counts are DORMANT. -/
theorem dormant_of_clearLeaving {cat : List StreamEntry} {e : StreamEntry} (h : e ∈ clearLeaving cat)
    (idle : e.counts = false) : e.activity = .dormant := by
  obtain ⟨x, hx, same⟩ := List.mem_filterMap.mp h
  split at same
  · split at same
    · cases same
    · cases same
      rfl
  · rename_i stays
    cases same
    match activity : e.activity with
    | .dormant => rfl
    | .joining => simp [StreamEntry.counts, activity] at idle
    | .active => simp [StreamEntry.counts, activity] at idle
    | .leaving => exact absurd activity stays

theorem CycleEnds.keeps_cycled {v w : ReplayUnit} {now : Time} {slots : Nat} {listeners : StreamId → Nat}
    (h : v.Cycled slots) (catalogued : Catalogued v.catalogue listeners) (caches : CachesOrdered v.catalogue)
    (slots_pos : 0 < slots) (runs : v.cycle.running = true) (m : CycleEnds v slots now w) : w.Cycled slots := by
  cases m with
  | stop none_left =>
    exact ⟨Nat.zero_le _, h.offset, nofun,
      fun _ => ⟨rfl, rfl, rfl, rfl, fun e he => dormant_of_clearLeaving he (none_left e he)⟩, nofun⟩
  | restart w some_left starts =>
    obtain ⟨-, -, k, -, below, units⟩ := h.running runs
    refine ReplayUnit.cycleStarted_cycled catalogued.clearLeaving caches.clearLeaving ?_ some_left
      (fun a pos => Nat.mod_lt _ pos) slots_pos starts
    exact occupancyOf_le slots_pos (units.trans (Nat.mul_le_mul_left 8 below))

theorem ReplayResets.keeps_cycled {v w : ReplayUnit} {now : Time} {slots : Nat} {listeners : StreamId → Nat}
    (catalogued : Catalogued v.catalogue listeners) (caches : CachesOrdered v.catalogue)
    (slots_pos : 0 < slots) (m : ReplayResets v now w) : w.Cycled slots := by
  cases m with
  | stop none_left =>
    refine ⟨Nat.zero_le _, Nat.zero_le _, nofun, fun _ => ⟨rfl, rfl, rfl, rfl, fun e he => ?_⟩, nofun⟩
    have notJoining := none_left e he
    obtain ⟨x, hx, rfl⟩ := List.mem_map.mp he
    have sound := (catalogued.map fun e _ => e.steady_freed).clearLeaving.sound x hx
    unfold StreamEntry.rejoined at notJoining ⊢
    split
    · rename_i silent
      refine dormant_of_clearLeaving hx (Bool.eq_false_of_not_eq_true fun counts => sound.counted.mp ?_ silent)
      simpa [StreamEntry.counts] using counts
    · rename_i heard
      rw [if_neg heard] at notJoining
      exact absurd rfl notJoining
  | restart w some_left starts =>
    obtain ⟨e, he, joining⟩ := some_left
    exact ReplayUnit.cycleStarted_cycled (ReplayUnit.emptied_catalogued catalogued) (ReplayUnit.emptied_caches caches)
      (Nat.zero_le _) ⟨e, he, by simp [StreamEntry.counts, joining]⟩ (fun _ h => h) slots_pos starts

theorem ReplayUnit.Cycled.delete {s : State} {slots : Nat} (h : s.ru.Cycled slots) (i : StreamId) :
    (s.deleteStream i).ru.Cycled slots where
  occupancy := h.occupancy
  offset := h.offset
  named j hj := by
    obtain ⟨r, hr, same⟩ := List.mem_map.mp hj
    split at same
    · cases same
    · rename_i other
      subst same
      obtain ⟨e, he, rfl⟩ := h.named j hr
      exact ⟨e, List.mem_filter.mpr ⟨he, by simpa using other⟩, rfl⟩
  stopped stops := by
    obtain ⟨active, slot, units, occupancy, all⟩ := h.stopped stops
    refine ⟨?_, slot, units, occupancy, fun e he => all e (List.mem_filter.mp he).1⟩
    change s.ru.cycle.active.map _ = []
    rw [active]
    rfl
  running runs := by
    obtain ⟨offset, places, rest⟩ := h.running runs
    have length : (s.deleteStream i).ru.cycle.active.length = s.ru.cycle.active.length := List.length_map _
    rw [length]
    exact ⟨offset, places, rest⟩

theorem State.insertStream_cycled {s : State} {slots : Nat} (h : s.ru.Cycled slots) (i : StreamId) (tier : Tier) (fill : Fill)
    (now : Time) (new : s.findStream i = none) : (s.insertStream (.fresh i tier fill now)).ru.Cycled slots := by
  have put (v : ReplayUnit) (h : v.Cycled slots) (absent : ∀ x ∈ v.catalogue, x.id ≠ i) :
      ReplayUnit.Cycled { v with catalogue := putBy (fun x => x.id) (StreamEntry.fresh i tier fill now) v.catalogue } slots := by
    refine h.of_catalogue (fun e he => ⟨e, mem_putBy_of_ne he (absent e he), rfl⟩) fun _ all e he => ?_
    obtain rfl | he := mem_putBy he
    · rfl
    · exact all e he
  have absent : ∀ x ∈ s.ru.catalogue, x.id ≠ i := by simpa [State.findStream] using new
  unfold State.insertStream
  split
  · exact put _ h absent
  · split
    · rename_i old _
      exact put (s.deleteStream old.id).ru (h.delete old.id) fun x hx => absent x (List.mem_filter.mp hx).1
    · exact h

theorem ReplayMove.keeps_cycled {s t : State} {listeners : StreamId → Nat} (h : s.ru.Cycled s.par.slots)
    (catalogued : Catalogued s.ru.catalogue listeners) (caches : CachesOrdered s.ru.catalogue) (slots_pos : 0 < s.par.slots)
    (m : ReplayMove s t) : t.ru.Cycled s.par.slots := by
  cases m with
  | insert i tier fill now new => exact State.insertStream_cycled h i tier fill now new
  | reannounce i tier fill now => exact h.change (fun _ => rfl) fun _ _ h => h
  | cache i e g length found wanted kept => exact h.change (fun _ => rfl) fun _ _ h => h
  | slot v running left starts => exact starts.keeps_cycled h caches running rfl left
  | cycleEnd v running ends => exact ends.keeps_cycled h catalogued caches slots_pos running
  | reset v started resets => exact resets.keeps_cycled catalogued caches slots_pos
  | delete i => exact h.delete i
  | ending i e unheard found used => exact h.change_used found used fun _ => rfl

/-- A cycle runs only where it ran or the node is past its start. -/
theorem ReplayMove.running {s t : State} (m : ReplayMove s t) (runs : t.ru.cycle.running = true) :
    s.ru.cycle.running = true ∨ s.sl.nodeState ≠ .starting := by
  cases m with
  | insert i tier fill now =>
    refine .inl ?_
    unfold State.insertStream at runs
    split at runs
    · exact runs
    · split at runs <;> exact runs
  | slot v running => exact .inl running
  | cycleEnd v running => exact .inl running
  | reset v started => exact .inr started
  | _ => exact .inl runs

theorem Move.keeps_cycleOrdered {s t : State} (streams : s.streamsOrdered) (caches : CachesOrdered s.ru.catalogue)
    (h : s.cycleOrdered) (m : Move s t) : t.cycleOrdered := by
  have sl := m.keeps.1
  rw [State.cycleOrdered_iff] at h ⊢
  obtain ⟨slots, cycled, started⟩ := h
  obtain ⟨listeners, catalogued, -⟩ := (State.streamsOrdered_iff s).mp streams
  have slots_pos : 0 < s.par.slots := Nat.lt_of_lt_of_le Nat.two_pos slots.1
  have par : t.par = s.par := by rw [State.par, sl, State.par]
  rw [par, sl]
  refine ⟨slots, ?_⟩
  have same (ru : t.ru = s.ru) : t.ru.Cycled s.par.slots ∧ (t.ru.cycle.running = true → s.sl.nodeState ≠ .starting) := by
    rw [ru]
    exact ⟨cycled, started⟩
  cases m with
  | listener m =>
    have lowered (v : ReplayUnit) (i : StreamId)
        (h : v.Cycled s.par.slots ∧ (v.cycle.running = true → s.sl.nodeState ≠ .starting)) :
        (v.change i StreamEntry.lowered).Cycled s.par.slots ∧ (v.cycle.running = true → s.sl.nodeState ≠ .starting) :=
      ⟨h.1.change StreamEntry.lowered_id fun _ _ => StreamEntry.lowered_dormant, h.2⟩
    exact m.ru_induct (P := fun v => v.Cycled s.par.slots ∧ (v.cycle.running = true → s.sl.nodeState ≠ .starting))
      lowered ⟨cycled, started⟩ fun i v up raises => ⟨raises.keeps_cycled cycled catalogued caches slots_pos, fun _ => up⟩
  | replay m =>
    exact ⟨m.keeps_cycled cycled catalogued caches slots_pos, fun runs => (m.running runs).elim started fun h => h⟩
  | drawn => exact same rfl
  | radio m => exact same (by rw [m.frame]; rfl)
  | counter m => exact same (by rw [m.frame.1]; rfl)
  | bus m => exact same (by rw [m.frame.1]; rfl)
  | peer m => exact same (by rw [m.frame.1]; rfl)
  | seat m => exact same rfl
  | client m => exact same (by rw [m.frame]; rfl)

theorem Configured.slots {p : Option Params} (h : Configured p) :
    2 ≤ (p.getD Params.default).slots ∧ (p.getD Params.default).slots ≤ 32 := by
  obtain rfl | ⟨r, rfl⟩ := h
  · decide
  · simp only [Option.getD_some, paramsOf, clampNat]
    omega

theorem State.configured_cycleOrdered {s : State} (h : s.cycleOrdered) (starting : s.sl.nodeState = .starting)
    {p : Option Params} (configured : Configured p) : (s.configured p).cycleOrdered := by
  rw [State.cycleOrdered_iff] at h ⊢
  obtain ⟨slots, cycled, started⟩ := h
  have idle (runs : s.ru.cycle.running = true) : False := started runs starting
  exact ⟨configured.slots, ⟨cycled.occupancy, cycled.offset, cycled.named, cycled.stopped, fun runs => (idle runs).elim⟩,
    fun runs => (idle runs).elim⟩

theorem Change.keeps_cycleOrdered {s t : State} (streams : s.streamsOrdered) (caches : CachesOrdered s.ru.catalogue)
    (h : s.cycleOrdered) (change : Change s t) : t.cycleOrdered := by
  cases change with
  | move m => exact m.keeps_cycleOrdered streams caches h
  | time dt => exact h
  | commands rest => exact h
  | reset quiet ready strap =>
    rw [State.cycleOrdered_iff, State.readStrap_par rfl, (State.readStrap_frame _ strap).2.2.2.2.1]
    exact ⟨by decide, ⟨Nat.zero_le _, Nat.zero_le _, nofun, fun _ => ⟨rfl, rfl, rfl, rfl, nofun⟩, nofun⟩, nofun⟩
  | listen p starting configured =>
    have h := State.configured_cycleOrdered h starting configured
    rw [State.cycleOrdered_iff] at h ⊢
    simpa [State.par] using h
  | crowded p starting configured => exact State.configured_cycleOrdered h starting configured
  | boundary next due => exact h
  | listened =>
    rw [State.cycleOrdered_iff] at h ⊢
    rw [State.countListening_par, (s.countListening_frame).2.2.2.2.2.1]
    exact ⟨h.1, h.2.1, fun runs starting => h.2.2 runs (s.countListening_nodeState starting)⟩

end Sys2Proof.Machine

open Sys2Proof Sys2Proof.Machine

/-- Settles O59: a resync moves next to the first unaired segment, behind which the aired one lies; and the at most 8 groups bound the
active list, a segment's 8 units the units. -/
theorem stepKeepsCacheOrdered : Obligations.StepKeepsCacheOrdered := by
  unfold Obligations.StepKeepsCacheOrdered
  constructor
  · intro s t h next
    rw [State.cacheOrdered_iff] at h ⊢
    exact step_keeps (P := fun s => CachesOrdered s.ru.catalogue) (fun _ _ h c => c.keeps_cacheOrdered h) h next
  · intro s t streams caches h next
    exact (step_keeps (P := fun s => s.streamsOrdered ∧ CachesOrdered s.ru.catalogue ∧ s.cycleOrdered)
      (fun _ _ ⟨streams, caches, h⟩ c =>
        ⟨c.keeps_streamsOrdered streams, c.keeps_cacheOrdered caches, c.keeps_cycleOrdered streams caches h⟩)
      ⟨streams, (State.cacheOrdered_iff s).mp caches, h⟩ next).2.2

end

section
/-! SUPPORT. What each command finds: the command of a record or of a frame, given the oldest one, is its block's operation on the state
without it, or nothing more while the node is STARTING. -/

namespace Sys2Proof.Machine

/-! ## Node states -/

theorem State.isStarting_of_ne {s : State} (started : s.sl.nodeState ≠ .starting) : s.isStarting = false := by
  simpa [State.isStarting] using started

theorem State.isStarting_of_starting {s : State} (starting : s.sl.nodeState = .starting) : s.isStarting = true := by
  simp [State.isStarting, starting]

@[simp] theorem State.isStarting_elapse (s : State) (dt : Time) : (s.elapse dt).isStarting = s.isStarting := rfl
@[simp] theorem State.isStarting_recordTaken (s : State) : s.recordTaken.isStarting = s.isStarting := rfl
@[simp] theorem State.isStarting_released (s : State) (b : Block) : (s.released b).isStarting = s.isStarting := rfl
@[simp] theorem State.isRunning_elapse (s : State) (dt : Time) : (s.elapse dt).isRunning = s.isRunning := rfl
@[simp] theorem State.isRunning_recordTaken (s : State) : s.recordTaken.isRunning = s.isRunning := rfl
@[simp] theorem State.isRunning_released (s : State) (b : Block) : (s.released b).isRunning = s.isRunning := rfl

/-! ## Records (R6, R173) -/

/-- A command that takes the oldest record, does nothing else while STARTING, and otherwise does what `act` says. -/
def State.onRecord (s : State) (dt : Time) (act : State → State) : Host.Outcome State Fault Refusal :=
  let u := (s.elapse dt).recordTaken
  .next (if u.isStarting then u else act u)

theorem State.onRecord_of_starting {s : State} (starting : s.sl.nodeState = .starting) (dt : Time) (act : State → State) :
    s.onRecord dt act = .next (s.elapse dt).recordTaken := by
  simp [State.onRecord, State.isStarting_of_starting starting]

theorem State.onRecord_of_started {s : State} (started : s.sl.nodeState ≠ .starting) (dt : Time) (act : State → State) :
    s.onRecord dt act = .next (act (s.elapse dt).recordTaken) := by
  simp [State.onRecord, State.isStarting_of_ne started]

/-- The operation of a record on an ASSOCIATED entry, after its sample and the stray test. -/
def State.onAssociated (s : State) (r : UplinkRecord) (act : State → ClientEntry → State) : State :=
  let s := (s.sampleOf r).strayTest r
  match s.associatedEntry r.client with
  | some e => act s e
  | none => s

section
variable {s : State} {r : UplinkRecord} (oldest : s.rp.uplink.head? = some r) (dt : Time)
include oldest

theorem State.takeUplink_elapse {p : UplinkBody → Bool} (accepted : p r.body = true) :
    (s.elapse dt).takeUplink p = some (r, (s.elapse dt).recordTaken) :=
  State.takeUplink_of_oldest oldest accepted

theorem exec_heard (body : r.body = .heard) :
    exec (.heard dt) s = s.onRecord dt (fun u => (u.sampleOf r).strayTest r) := by
  simp [exec, execHeard, State.takeUplink_elapse oldest, body, State.onRecord]

theorem exec_joinRequest (body : r.body = .joinRequest) :
    exec (.joinRequest dt) s = s.onRecord dt (fun u => (u.sampleOf r).handleJoin r) := by
  simp [exec, execJoinRequest, State.takeUplink_elapse oldest, body, State.onRecord]

theorem exec_leave (body : r.body = .leave) :
    exec (.leave dt) s = s.onRecord dt (fun u => ((u.sampleOf r).strayTest r).handleLeave r.client) := by
  simp [exec, execLeave, State.takeUplink_elapse oldest, body, State.onRecord]

theorem exec_capsPiece {index : Nat} {last : Bool} {data : List Byte} (body : r.body = .capsPiece index last data) :
    exec (.capsPiece dt) s = s.onRecord dt (fun u => u.onAssociated r (fun v e => v.takePiece e index last data)) := by
  simp [exec, execCapsPiece, State.takeUplink_elapse oldest, body, State.onRecord, State.onAssociated]
  cases (((s.elapse dt).recordTaken.sampleOf r).strayTest r).associatedEntry r.client <;> rfl

theorem exec_subscribeOn {id : StreamId} (body : r.body = .subscribe id true) :
    exec (.subscribeOn dt) s = s.onRecord dt (fun u => u.onAssociated r (fun v _ => v.applySubscription r.client id)) := by
  simp [exec, execSubscribeOn, State.takeUplink_elapse oldest, body, State.onRecord, State.onAssociated]
  cases (((s.elapse dt).recordTaken.sampleOf r).strayTest r).associatedEntry r.client <;> rfl

theorem exec_subscribeOff {id : StreamId} (body : r.body = .subscribe id false) :
    exec (.subscribeOff dt) s = s.onRecord dt (fun u => u.onAssociated r (fun v e => v.unsubscribe e id)) := by
  simp [exec, execSubscribeOff, State.takeUplink_elapse oldest, body, State.onRecord, State.onAssociated]
  cases (((s.elapse dt).recordTaken.sampleOf r).strayTest r).associatedEntry r.client <;> rfl

theorem exec_token {t : Token} (body : r.body = .token t) :
    exec (.token dt) s = s.onRecord dt (fun u => ((u.sampleOf r).strayTest r).takeToken r.client t) := by
  simp [exec, execToken, State.takeUplink_elapse oldest, body, State.onRecord] <;> rfl

end

/-! ## What a frame's payload says (R201, R202) -/

/-- The client that a roam frame names. -/
def Message.roamClient (m : Message) : Option ClientId :=
  match m with
  | .roamClaim c _ | .roamGrant c _ | .roamDeny c _ _ | .roamReturn c | .clientMoved c _ | .contextReply c _ => some c
  | _ => none

theorem RxFrame.clientAt_of_roamClient {f : RxFrame} {m : Message} {c : ClientId} (reads : f.message = some m)
    (names : m.roamClient = some c) : clientAt f.payload 0 = c := by
  have kind := parseMessage_kind reads
  unfold RxFrame.message at reads
  rw [← kind] at reads
  cases m <;> simp only [Message.kind, parseMessage, Message.roamClient, Option.some.injEq, Option.map_eq_some_iff,
    Message.roamClaim.injEq, Message.roamGrant.injEq, Message.roamDeny.injEq, Message.roamReturn.injEq,
    Message.clientMoved.injEq, reduceCtorEq] at reads names
  case contextReply d x => 
    split_ifs at reads <;> simp only [Option.some.injEq, Option.map_eq_some_iff, Message.contextReply.injEq] at reads <;> grind
  all_goals grind

theorem RxFrame.verdictOf_of_message {f : RxFrame} {seat : Seat} {v : Verdict}
    (reads : f.message = some (.authorityAnswer seat v)) : verdictOf f = some v := by
  have kind := parseMessage_kind reads
  unfold RxFrame.message at reads
  rw [← kind] at reads
  simp only [Message.kind, parseMessage, Option.map_eq_some_iff, Message.authorityAnswer.injEq] at reads
  obtain ⟨w, found, -, rfl⟩ := reads
  exact found

theorem RxFrame.matchStateOf_of_message {f : RxFrame} {m : MatchState} (reads : f.message = some (.matchState m)) :
    matchStateOf f = some m := by
  have kind := parseMessage_kind reads
  unfold RxFrame.message at reads
  rw [← kind] at reads
  simp only [Message.kind, parseMessage, Option.map_eq_some_iff, Message.matchState.injEq] at reads
  obtain ⟨w, found, rfl⟩ := reads
  exact found

theorem RxFrame.isReset_of_message {f : RxFrame} {t : ResetTarget} (reads : f.message = some (.blockReset t)) :
    f.isReset t = true := by
  have kind := parseMessage_kind reads
  unfold RxFrame.message at reads
  rw [← kind] at reads
  simp only [Message.kind, parseMessage, Option.map_eq_some_iff, Message.blockReset.injEq] at reads
  obtain ⟨w, found, rfl⟩ := reads
  simp [RxFrame.isReset, ← kind, Message.kind, resetTargetOf, found]

theorem RxFrame.streamStatusOf_of_message {f : RxFrame} {id : StreamId} {tier : Tier} {fill : Fill} {st : StreamStatus}
    (reads : f.message = some (.streamAnnounce id tier fill st)) : streamStatusOf f = some st := by
  have kind := parseMessage_kind reads
  unfold RxFrame.message at reads
  rw [← kind] at reads
  simp only [Message.kind, parseMessage] at reads
  split at reads
  · rename_i found
    simp only [Option.some.injEq, Message.streamAnnounce.injEq] at reads
    obtain ⟨-, -, -, rfl⟩ := reads
    exact found
  · cases reads

/-! ## Frames (R36, R62, R64, R85, R120, R154, R169) -/

/-- A command that takes its block's oldest frame, does nothing else while STARTING, and otherwise does what `act` says. -/
def State.onFrame (s : State) (dt : Time) (b : Block) (act : State → State) : Host.Outcome State Fault Refusal :=
  let u := (s.elapse dt).released b
  .next (if u.isStarting then u else act u)

/-- A command of the Roam Engine, which discards a frame of no node or no client (R36). -/
def State.onRoam (s : State) (dt : Time) (source : Station) (c : ClientId) (act : State → State) :
    Host.Outcome State Fault Refusal :=
  s.onFrame dt .roamEngine (fun u => if isNodeStation source && c != 0 then act u else u)

theorem State.onFrame_of_starting {s : State} (starting : s.sl.nodeState = .starting) (dt : Time) (b : Block)
    (act : State → State) : s.onFrame dt b act = .next ((s.elapse dt).released b) := by
  simp [State.onFrame, State.isStarting_of_starting starting]

theorem State.onFrame_of_started {s : State} (started : s.sl.nodeState ≠ .starting) (dt : Time) (b : Block)
    (act : State → State) : s.onFrame dt b act = .next (act ((s.elapse dt).released b)) := by
  simp [State.onFrame, State.isStarting_of_ne started]

theorem isNodeStation_iff (a : Station) : isNodeStation a = true ↔ 1 ≤ a ∧ a ≤ 29 := decide_eq_true_iff

theorem State.onRoam_of_started {s : State} (started : s.sl.nodeState ≠ .starting) (dt : Time) {source : Station}
    {c : ClientId} (node : 1 ≤ source ∧ source ≤ 29) (client : c ≠ 0) (act : State → State) :
    s.onRoam dt source c act = .next (act ((s.elapse dt).released .roamEngine)) := by
  have passes : (isNodeStation source && c != 0) = true := by
    rw [Bool.and_eq_true, isNodeStation_iff, bne_iff_ne]
    exact ⟨node, client⟩
  rw [State.onRoam, State.onFrame_of_started started, if_pos passes]

theorem State.onRoam_of_discarded {s : State} (dt : Time) {source : Station} {c : ClientId}
    (discarded : ¬ (1 ≤ source ∧ source ≤ 29) ∨ c = 0) (act : State → State) :
    s.onRoam dt source c act = .next ((s.elapse dt).released .roamEngine) := by
  have fails : ¬ (isNodeStation source && c != 0) = true := by
    rw [Bool.and_eq_true, isNodeStation_iff, bne_iff_ne]
    tauto
  rw [State.onRoam, State.onFrame]
  simp only [if_neg fails, ite_self]

theorem State.takeFrame_elapse {s : State} {b : Block} {f : RxFrame} {p : RxFrame → Bool} (oldest : s.oldestFor b = some f)
    (dt : Time) (accepted : p f = true) : (s.elapse dt).takeFrame b p = some (f, (s.elapse dt).released b) :=
  State.takeFrame_of_oldest oldest accepted

/-- The Roam Engine's command for a frame that names a client, given the operation on the state without the frame. -/
theorem State.takeRoam_elapse {s : State} {f : RxFrame} {k : FrameKind} (oldest : s.oldestFor .roamEngine = some f) (dt : Time)
    (kind : f.kind = k) : (s.elapse dt).takeRoam k = some (f, (s.elapse dt).released .roamEngine) :=
  State.takeFrame_elapse oldest dt (by simp [kind])

theorem State.roamFrameOk_eq {s : State} {f : RxFrame} {m : Message} {c : ClientId} (reads : f.message = some m)
    (names : m.roamClient = some c) : s.roamFrameOk f = (!s.isStarting && (isNodeStation f.source && c != 0)) := by
  rw [State.roamFrameOk, RxFrame.clientAt_of_roamClient reads names, Bool.and_assoc]

/-- Two tests in turn, the first of them the negation of STARTING. -/
theorem ite_not_and {α : Type} (p q : Bool) (x y : α) :
    (if (!p && q) = true then x else y) = if p = true then y else if q = true then x else y := by
  cases p <;> simp

section
variable {s : State} {source : Station} (dt : Time)

theorem exec_roamClaim {c : ClientId} {n : Nat} (carried : s.carries .roamEngine source (.roamClaim c n)) :
    exec (.roamClaim dt) s = s.onRoam dt source c (fun u => u.decideClaim source c n) := by
  obtain ⟨f, oldest, rfl, kind, reads⟩ := carried
  simp only [exec, execRoamClaim, State.takeRoam_elapse (k := .roamClaim) oldest dt kind, reads, State.roamFrameOk_eq reads rfl, ite_not_and,
    State.onRoam, State.onFrame]

theorem exec_roamGrant {c : ClientId} {x : Context} (carried : s.carries .roamEngine source (.roamGrant c x)) :
    exec (.roamGrant dt) s = s.onRoam dt source c (fun u => u.decideGrant source c x) := by
  obtain ⟨f, oldest, rfl, kind, reads⟩ := carried
  simp only [exec, execRoamGrant, State.takeRoam_elapse (k := .roamGrant) oldest dt kind, reads, State.roamFrameOk_eq reads rfl, ite_not_and,
    State.onRoam, State.onFrame]

theorem exec_roamDeny {c : ClientId} {k : DenyReason} {n : Nat}
    (carried : s.carries .roamEngine source (.roamDeny c k n)) :
    exec (.roamDeny dt) s = s.onRoam dt source c (fun u => u.takeDenial source c) := by
  obtain ⟨f, oldest, rfl, kind, reads⟩ := carried
  simp only [exec, execRoamDeny, State.takeRoam_elapse (k := .roamDeny) oldest dt kind, reads, State.roamFrameOk_eq reads rfl, ite_not_and,
    State.onRoam, State.onFrame]

theorem exec_roamReturn {c : ClientId} (carried : s.carries .roamEngine source (.roamReturn c)) :
    exec (.roamReturn dt) s = s.onRoam dt source c (fun u => u.takeReturn source c) := by
  obtain ⟨f, oldest, rfl, kind, reads⟩ := carried
  simp only [exec, execRoamReturn, State.takeRoam_elapse (k := .roamReturn) oldest dt kind, reads, State.roamFrameOk_eq reads rfl, ite_not_and,
    State.onRoam, State.onFrame]

theorem exec_clientMoved {c : ClientId} {w : Bool} (carried : s.carries .roamEngine source (.clientMoved c w)) :
    exec (.clientMoved dt) s = s.onRoam dt source c (fun u => u.takeMoved source c w) := by
  obtain ⟨f, oldest, rfl, kind, reads⟩ := carried
  simp only [exec, execClientMoved, State.takeRoam_elapse (k := .clientMoved) oldest dt kind, reads, State.roamFrameOk_eq reads rfl, ite_not_and,
    State.onRoam, State.onFrame]

theorem exec_contextReply {c : ClientId} {x : Option Context} (carried : s.carries .roamEngine source (.contextReply c x)) :
    exec (.contextReply dt) s = s.onRoam dt source c (fun u => u.takeContext source c x) := by
  obtain ⟨f, oldest, rfl, kind, reads⟩ := carried
  simp only [exec, execContextReply, State.takeRoam_elapse (k := .contextReply) oldest dt kind, reads, State.roamFrameOk_eq reads rfl, ite_not_and,
    State.onRoam, State.onFrame]

/-- A forward is answered unless it is STARTING's, sent to all stations, or from no station (R75). -/
def State.takeForward (s : State) (f : RxFrame) (c : ClientId) (t : Token) : State :=
  if f.destination = 0 ∨ isStation f.source = false then s
  else
    (s.answerForward f.source c t).1.send f.source (.tokenResult c t.serial t.seat (s.answerForward f.source c t).2)

theorem exec_tokenForward {f : RxFrame} {c : ClientId} {t : Token} (oldest : s.oldestFor .seatValidator = some f)
    (kind : f.kind = .tokenForward) (reads : f.message = some (.tokenForward c t)) :
    exec (.tokenForward dt) s = s.onFrame dt .seatValidator (fun u => u.takeForward f c t) := by
  have taken := State.takeFrame_elapse (p := fun f => f.kind == .tokenForward) oldest dt (by simp [kind])
  simp only [exec, execTokenForward, taken, reads, State.onFrame, State.takeForward]
  by_cases starting : ((s.elapse dt).released .seatValidator).isStarting = true <;> simp [starting]

theorem exec_tokenResult {c : ClientId} {n : Serial} {seat : Seat} {k : TokenCode}
    (carried : s.carries .seatValidator source (.tokenResult c n seat k)) :
    exec (.tokenResult dt) s =
      s.onFrame dt .seatValidator
        (fun u => if u.sv.matchState = .closed then u else u.takeResult source c n seat k) := by
  obtain ⟨f, oldest, rfl, kind, reads⟩ := carried
  have taken := State.takeFrame_elapse (p := fun f => f.kind == .tokenResult) oldest dt (by simp [kind, Message.kind])
  simp only [exec, execTokenResult, taken, reads, State.onFrame]
  by_cases starting : ((s.elapse dt).released .seatValidator).isStarting = true <;> simp [starting]

theorem exec_seatReleased {c : ClientId} {n : Serial} {seat : Seat}
    (carried : s.carries .associationUnit source (.seatReleased c n seat)) :
    exec (.seatReleased dt) s = s.onFrame dt .associationUnit (fun u => u.releaseBinding c n seat) := by
  obtain ⟨f, oldest, rfl, kind, reads⟩ := carried
  have taken := State.takeFrame_elapse (p := fun f => f.kind == .seatReleased) oldest dt (by simp [kind, Message.kind])
  simp only [exec, execSeatReleased, taken, reads, State.onFrame]

/-- A verdict on a seat from station 30 is applied to the authority entry that names the seat (R92). -/
def State.settle (s : State) (source : Station) (seat : Seat) (apply : State → AuthorityEntry → State) : State :=
  if source = gateway then
    match s.findAuthority seat with
    | some a => apply s a
    | none => s
  else s

theorem State.takeAnswer_elapse {f : RxFrame} {seat : Seat} {v : Verdict} (oldest : s.oldestFor .seatValidator = some f)
    (kind : f.kind = .authorityAnswer) (reads : f.message = some (.authorityAnswer seat v)) :
    (s.elapse dt).takeAnswer v = some (f, (s.elapse dt).released .seatValidator) :=
  State.takeFrame_elapse oldest dt (by simp [kind, RxFrame.verdictOf_of_message reads])

theorem State.answer_eq {f : RxFrame} {seat : Seat} {v : Verdict} (reads : f.message = some (.authorityAnswer seat v))
    (apply : State → AuthorityEntry → State) :
    s.answer f v apply = if s.isStarting then s else s.settle f.source seat apply := by
  by_cases starting : s.isStarting = true
  · simp [State.answer, State.answeredSeat, starting]
  · by_cases fromGateway : f.source = gateway
    · simp [State.answer, State.answeredSeat, starting, fromGateway, reads, State.settle] <;> rfl
    · simp [State.answer, State.answeredSeat, starting, fromGateway, State.settle]

theorem exec_answerKeep {seat : Seat} (carried : s.carries .seatValidator source (.authorityAnswer seat .keep)) :
    exec (.authorityAnswerKeep dt) s = s.onFrame dt .seatValidator (fun u => u.settle source seat State.applyKeep) := by
  obtain ⟨f, oldest, rfl, kind, reads⟩ := carried
  simp only [exec, execAuthorityAnswerKeep, State.takeAnswer_elapse dt oldest kind reads, State.answer_eq reads, State.onFrame]

theorem exec_answerReplace {seat : Seat} (carried : s.carries .seatValidator source (.authorityAnswer seat .replace)) :
    exec (.authorityAnswerReplace dt) s = s.onFrame dt .seatValidator (fun u => u.settle source seat State.applyReplace) := by
  obtain ⟨f, oldest, rfl, kind, reads⟩ := carried
  simp only [exec, execAuthorityAnswerReplace, State.takeAnswer_elapse dt oldest kind reads, State.answer_eq reads, State.onFrame]

theorem exec_answerBlock {seat : Seat} (carried : s.carries .seatValidator source (.authorityAnswer seat .block)) :
    exec (.authorityAnswerBlock dt) s = s.onFrame dt .seatValidator (fun u => u.settle source seat State.applyBlock) := by
  obtain ⟨f, oldest, rfl, kind, reads⟩ := carried
  simp only [exec, execAuthorityAnswerBlock, State.takeAnswer_elapse dt oldest kind reads, State.answer_eq reads, State.onFrame]

theorem exec_answerUnblock {seat : Seat} (carried : s.carries .seatValidator source (.authorityAnswer seat .unblock)) :
    exec (.authorityAnswerUnblock dt) s =
      s.onFrame dt .seatValidator
        (fun u => if source = gateway then u.updateSeat seat SeatRecord.unblocked else u) := by
  obtain ⟨f, oldest, rfl, kind, reads⟩ := carried
  simp only [exec, execAuthorityAnswerUnblock, State.takeAnswer_elapse dt oldest kind reads, State.onFrame,
    State.answeredSeat, reads]
  by_cases starting : ((s.elapse dt).released .seatValidator).isStarting = true <;>
    by_cases fromGateway : f.source = gateway <;> simp [starting, fromGateway]

theorem exec_matchStateOpen (carried : s.carries .seatValidator source (.matchState .opened)) :
    exec (.matchStateOpen dt) s =
      s.onFrame dt .seatValidator (fun u => u.setSv { u.sv with matchState := .opened }) := by
  obtain ⟨f, oldest, rfl, kind, reads⟩ := carried
  have value := RxFrame.matchStateOf_of_message reads
  have taken : (s.elapse dt).takeMatchState .opened = some (f, (s.elapse dt).released .seatValidator) :=
    State.takeFrame_elapse oldest dt (by simp [kind, Message.kind, value])
  simp [exec, execMatchStateOpen, taken, value, State.onFrame]

theorem exec_matchStateClosed (carried : s.carries .seatValidator source (.matchState .closed)) :
    exec (.matchStateClosed dt) s = s.onFrame dt .seatValidator State.closeMatch := by
  obtain ⟨f, oldest, rfl, kind, reads⟩ := carried
  have value := RxFrame.matchStateOf_of_message reads
  have taken : (s.elapse dt).takeMatchState .closed = some (f, (s.elapse dt).released .seatValidator) :=
    State.takeFrame_elapse oldest dt (by simp [kind, Message.kind, value])
  simp [exec, execMatchStateClosed, taken, value, State.onFrame] <;> rfl

theorem exec_blockResetRoam (carried : s.carries .associationUnit source (.blockReset .roam)) :
    exec (.blockResetRoam dt) s =
      s.onFrame dt .associationUnit
        (fun u => u.setAu
          { clients := (u.au.clients.filter (fun e => e.state.counted)).map ClientEntry.roamCleared, sightings := [] }) := by
  obtain ⟨f, oldest, rfl, -, reads⟩ := carried
  have taken := State.takeFrame_elapse (p := fun f => f.isReset .roam) oldest dt (RxFrame.isReset_of_message reads)
  simp only [exec, execBlockResetRoam, taken, State.onFrame]

theorem exec_blockResetTicket (carried : s.carries .seatValidator source (.blockReset .ticket)) :
    exec (.blockResetTicket dt) s =
      s.onFrame dt .seatValidator (fun u => u.clearSeats.answerPending .tryAgain) := by
  obtain ⟨f, oldest, rfl, -, reads⟩ := carried
  have taken := State.takeFrame_elapse (p := fun f => f.isReset .ticket) oldest dt (RxFrame.isReset_of_message reads)
  simp only [exec, execBlockResetTicket, taken, State.onFrame]

theorem exec_blockResetReplay (carried : s.carries .replayUnit source (.blockReset .replay)) :
    exec (.blockResetReplay dt) s = s.onFrame dt .replayUnit State.resetReplay := by
  obtain ⟨f, oldest, rfl, -, reads⟩ := carried
  have taken := State.takeFrame_elapse (p := fun f => f.isReset .replay) oldest dt (RxFrame.isReset_of_message reads)
  simp only [exec, execBlockResetReplay, taken, State.onFrame]

theorem exec_blockResetCounters (carried : s.carries .counterBank source (.blockReset .counters)) :
    exec (.blockResetCounters dt) s =
      s.onFrame dt .counterBank
        (fun u => u.setCb { counters := CounterBank.zeros, snapshot := CounterBank.zeros }) := by
  obtain ⟨f, oldest, rfl, -, reads⟩ := carried
  have taken := State.takeFrame_elapse (p := fun f => f.isReset .counters) oldest dt (RxFrame.isReset_of_message reads)
  simp only [exec, execBlockResetCounters, taken, State.onFrame]

theorem State.takeAnnounce_elapse {f : RxFrame} {id : StreamId} {tier : Tier} {fill : Fill} {st : StreamStatus}
    (oldest : s.oldestFor .replayUnit = some f) (kind : f.kind = .streamAnnounce)
    (reads : f.message = some (.streamAnnounce id tier fill st)) :
    (s.elapse dt).takeAnnounce st = some (f, (s.elapse dt).released .replayUnit) :=
  State.takeFrame_elapse oldest dt (by simp [kind, RxFrame.streamStatusOf_of_message reads])

theorem exec_streamAnnounceLive {id : StreamId} {tier : Tier} {fill : Fill}
    (carried : s.carries .replayUnit source (.streamAnnounce id tier fill .live)) :
    exec (.streamAnnounceLive dt) s =
      s.onFrame dt .replayUnit
        (fun u => if source = gateway ∧ id ≠ 0 then u.announceLive id tier fill else u) := by
  obtain ⟨f, oldest, rfl, kind, reads⟩ := carried
  simp only [exec, execStreamAnnounceLive, State.takeAnnounce_elapse dt oldest kind reads, State.onFrame, State.announced, reads]
  by_cases starting : ((s.elapse dt).released .replayUnit).isStarting = true <;>
    by_cases fromGateway : f.source = gateway <;> by_cases named : id = 0 <;> simp [starting, fromGateway, named]

theorem exec_streamAnnounceEnded {id : StreamId} {tier : Tier} {fill : Fill}
    (carried : s.carries .replayUnit source (.streamAnnounce id tier fill .ended)) :
    exec (.streamAnnounceEnded dt) s =
      s.onFrame dt .replayUnit (fun u => if source = gateway ∧ id ≠ 0 then u.announceEnded id else u) := by
  obtain ⟨f, oldest, rfl, kind, reads⟩ := carried
  simp only [exec, execStreamAnnounceEnded, State.takeAnnounce_elapse dt oldest kind reads, State.onFrame, State.announced, reads]
  by_cases starting : ((s.elapse dt).released .replayUnit).isStarting = true <;>
    by_cases fromGateway : f.source = gateway <;> by_cases named : id = 0 <;> simp [starting, fromGateway, named]

theorem exec_segment {id : StreamId} {seq : Sequence} {len : Nat} {data : List Byte}
    (carried : s.carries .replayUnit source (.segment id seq len data)) :
    exec (.segment dt) s = s.onFrame dt .replayUnit (fun u => u.takeSegment source id seq len data) := by
  obtain ⟨f, oldest, rfl, kind, reads⟩ := carried
  have taken := State.takeFrame_elapse (p := fun f => f.kind == .segment) oldest dt (by simp [kind, Message.kind])
  simp only [exec, execSegment, taken, reads, State.onFrame]

theorem exec_presence {f : RxFrame} {cls : PeerClass} {block : Option SeatBlock} {defaulted admitting : Bool}
    (oldest : s.oldestFor .announcementUnit = some f) (kind : f.kind = .presence)
    (reads : f.message = some (.presence cls block defaulted admitting)) :
    exec (.presence dt) s = s.onFrame dt .announcementUnit (fun u => u.takePresence f cls block defaulted) := by
  have taken := State.takeFrame_elapse (p := fun f => f.kind == .presence) oldest dt (by simp [kind])
  simp only [exec, execPresence, taken, reads, State.onFrame]

theorem exec_load {u e l : Nat} (carried : s.carries .announcementUnit source (.load u e l)) :
    exec (.load dt) s =
      s.onFrame dt .announcementUnit
        (fun v => v.takeLoad source { occupancy := u, entries := e, limit := l }) := by
  obtain ⟨f, oldest, rfl, kind, reads⟩ := carried
  have taken := State.takeFrame_elapse (p := fun f => f.kind == .load) oldest dt (by simp [kind, Message.kind])
  simp only [exec, execLoad, taken, reads, State.onFrame]

theorem exec_harvestRequest (carried : s.carries .counterBank source .harvestRequest) :
    exec (.harvestRequest dt) s = s.onFrame dt .counterBank State.armHarvest := by
  obtain ⟨f, oldest, rfl, kind, reads⟩ := carried
  have taken := State.takeFrame_elapse (p := fun f => f.kind == .harvestRequest) oldest dt (by simp [kind, Message.kind])
  simp only [exec, execHarvestRequest, taken, State.onFrame]

end

/-! ## A STARTING node (R6, R62, R64, R85, R120, R154) -/

theorem exec_record_of_starting {s : State} {r : UplinkRecord} (starting : s.sl.nodeState = .starting) (dt : Time)
    (oldest : s.rp.uplink.head? = some r) : exec (r.body.command dt) s = .next (s.elapse dt).recordTaken := by
  have discards := State.onRecord_of_starting starting dt
  match body : r.body with
  | .heard => exact (exec_heard oldest dt body).trans (discards _)
  | .joinRequest => exact (exec_joinRequest oldest dt body).trans (discards _)
  | .leave => exact (exec_leave oldest dt body).trans (discards _)
  | .capsPiece _ _ _ => exact (exec_capsPiece oldest dt body).trans (discards _)
  | .subscribe _ true => exact (exec_subscribeOn oldest dt body).trans (discards _)
  | .subscribe _ false => exact (exec_subscribeOff oldest dt body).trans (discards _)
  | .token _ => exact (exec_token oldest dt body).trans (discards _)

theorem exec_frame_of_starting {s : State} {m : Message} {b : Block} {c : Instr} {source : Station}
    (starting : s.sl.nodeState = .starting) (dt : Time) (taker : m.command dt = some (b, c)) (carried : s.carries b source m) :
    exec c s = .next ((s.elapse dt).released b) := by
  have discards := State.onFrame_of_starting starting dt
  match m with
  | .roamClaim .. => cases taker; exact (exec_roamClaim dt carried).trans (discards _ _)
  | .roamGrant .. => cases taker; exact (exec_roamGrant dt carried).trans (discards _ _)
  | .roamDeny .. => cases taker; exact (exec_roamDeny dt carried).trans (discards _ _)
  | .roamReturn .. => cases taker; exact (exec_roamReturn dt carried).trans (discards _ _)
  | .clientMoved .. => cases taker; exact (exec_clientMoved dt carried).trans (discards _ _)
  | .contextReply .. => cases taker; exact (exec_contextReply dt carried).trans (discards _ _)
  | .tokenForward .. =>
    cases taker
    obtain ⟨f, oldest, -, kind, reads⟩ := carried
    exact (exec_tokenForward dt oldest kind reads).trans (discards _ _)
  | .tokenResult .. => cases taker; exact (exec_tokenResult dt carried).trans (discards _ _)
  | .seatReleased .. => cases taker; exact (exec_seatReleased dt carried).trans (discards _ _)
  | .authorityAnswer _ .keep => cases taker; exact (exec_answerKeep dt carried).trans (discards _ _)
  | .authorityAnswer _ .replace => cases taker; exact (exec_answerReplace dt carried).trans (discards _ _)
  | .authorityAnswer _ .block => cases taker; exact (exec_answerBlock dt carried).trans (discards _ _)
  | .authorityAnswer _ .unblock => cases taker; exact (exec_answerUnblock dt carried).trans (discards _ _)
  | .presence .. =>
    cases taker
    obtain ⟨f, oldest, -, kind, reads⟩ := carried
    exact (exec_presence dt oldest kind reads).trans (discards _ _)
  | .load .. => cases taker; exact (exec_load dt carried).trans (discards _ _)
  | .segment .. => cases taker; exact (exec_segment dt carried).trans (discards _ _)
  | .streamAnnounce _ _ _ .live => cases taker; exact (exec_streamAnnounceLive dt carried).trans (discards _ _)
  | .streamAnnounce _ _ _ .ended => cases taker; exact (exec_streamAnnounceEnded dt carried).trans (discards _ _)
  | .harvestRequest => cases taker; exact (exec_harvestRequest dt carried).trans (discards _ _)
  | .matchState .opened => cases taker; exact (exec_matchStateOpen dt carried).trans (discards _ _)
  | .matchState .closed => cases taker; exact (exec_matchStateClosed dt carried).trans (discards _ _)
  | .blockReset .roam => cases taker; exact (exec_blockResetRoam dt carried).trans (discards _ _)
  | .blockReset .ticket => cases taker; exact (exec_blockResetTicket dt carried).trans (discards _ _)
  | .blockReset .replay => cases taker; exact (exec_blockResetReplay dt carried).trans (discards _ _)
  | .blockReset .counters => cases taker; exact (exec_blockResetCounters dt carried).trans (discards _ _)
  | .authorityQuery .. => exact nomatch taker
  | .streamWant .. => exact nomatch taker
  | .harvest .. => exact nomatch taker
  | .notice .. => exact nomatch taker

end Sys2Proof.Machine

open Sys2Proof Sys2Proof.Machine

/-- Settles O2: every command's effect is a chain of moves, none of which touches the time or the queue; and each command that takes a
record or a frame tests for STARTING once it has taken it. -/
theorem everyCommandGoesOn : Obligations.EveryCommandGoesOn := by
  refine ⟨fun c s => ?_, fun s dt starting => ⟨fun r oldest => exec_record_of_starting starting dt oldest,
    fun m b c source taker carried => exec_frame_of_starting starting dt taker carried⟩⟩
  obtain ⟨t, next, -, now, pending⟩ := exec_ends c s
  exact ⟨t, next, now, pending⟩

/-- Settles O1: the two branches of the step. -/
theorem stepRunsTheFrontCommand : Obligations.StepRunsTheFrontCommand := by
  refine ⟨fun c rest s => rfl, fun s idle => ?_⟩
  rw [step, idle]

end

section
/-! SUPPORT. Reset: the power-on values meet every invariant, and the strap decides between STARTING and SILENT (R193, R197). -/

namespace Sys2Proof.Machine

/-! ## The state after reset -/

theorem State.reset_countersOrdered : State.reset.countersOrdered := by
  refine ⟨fun k => ?_, fun _ => ⟨rfl, rfl⟩⟩
  have zero : State.reset.cb.counters.get k = { value := 0, saturated := false } := CounterBank.zeros_get k
  have snapshot : State.reset.cb.snapshot.get k = { value := 0, saturated := false } := CounterBank.zeros_get k
  rw [zero, snapshot]
  exact ⟨by decide, le_rfl, fun _ => rfl⟩

theorem State.reset_busOrdered : State.reset.busOrdered :=
  State.busOrdered_of_initial rfl fun k => by cases k <;> rfl

theorem State.reset_peersOrdered : State.reset.peersOrdered :=
  ⟨.nil, nofun, nofun, by decide, .nil, fun _ => rfl⟩

theorem State.reset_clientsOrdered : State.reset.clientsOrdered :=
  ⟨.nil, .nil, nofun, by decide, by decide, by decide, fun _ => rfl, nofun, nofun⟩

theorem State.reset_roamOrdered : State.reset.roamOrdered := ⟨by decide, by decide, nofun⟩

theorem State.reset_streamsOrdered : State.reset.streamsOrdered := ⟨by decide, .nil, .nil, nofun, nofun, nofun, nofun⟩

theorem State.reset_cacheOrdered : State.reset.cacheOrdered := ⟨.nil, nofun⟩

theorem State.reset_cycleOrdered : State.reset.cycleOrdered :=
  ⟨by decide, by decide, by decide, nofun, fun _ => ⟨rfl, rfl, rfl, rfl, nofun⟩, nofun⟩

theorem State.reset_seatsOrdered : State.reset.seatsOrdered :=
  ⟨.nil, by decide, .nil, by decide, .nil, fun _ => ⟨nofun, nofun⟩, nofun, nofun, nofun, fun _ => ⟨rfl, rfl⟩⟩

/-! ## The strap -/

theorem strapAddress_some {strap : BitVec 5} (low : 1 ≤ strap.toNat) (high : strap.toNat ≤ 29) :
    strapAddress strap = some strap.toNat := by
  rw [strapAddress, if_pos ((isNodeStation_iff _).mpr ⟨low, high⟩)]

theorem strapAddress_none {strap : BitVec 5} (none : strap.toNat = 0 ∨ strap.toNat = 30 ∨ strap.toNat = 31) :
    strapAddress strap = .none := by
  rw [strapAddress, if_neg]
  rw [isNodeStation_iff]
  change ¬ ((1 : Nat) ≤ strap.toNat ∧ strap.toNat ≤ (29 : Nat))
  omega

/-- A mask of zeros leaves every counter as it is. -/
theorem maskCounters_zero (v : Vector Counter 24) : maskCounters 0#24 v = v := by
  ext i hi
  all_goals simp [maskCounters, Vector.get]

theorem State.readStrap_accepted {strap : BitVec 5} (low : 1 ≤ strap.toNat) (high : strap.toNat ≤ 29) (s : State) :
    s.readStrap strap = s.setSl { s.sl with ownAddress := some strap.toNat, readStarted := some s.now } := by
  rw [State.readStrap, strapAddress_some low high]

theorem State.readStrap_silent {strap : BitVec 5} (none : strap.toNat = 0 ∨ strap.toNat = 30 ∨ strap.toNat = 31) (s : State) :
    s.readStrap strap = s.enterSilent := by
  rw [State.readStrap, strapAddress_none none]

theorem State.enterSilent_eq {s : State} (fresh : s.sl = StartUp.initial) (seats : s.sv.seats = []) :
    s.enterSilent =
      (s.setSl { StartUp.initial with nodeState := .silent, params := some Params.default }).setAnu
        { s.anu with nextBoundary := some (s.now + 1000000) } := by
  apply State.ext_fields <;>
    simp [State.enterSilent, State.applyParams, fresh, seatTable, Params.default, millis, maskCounters_zero, StartUp.initial,
      ← seats]

end Sys2Proof.Machine

open Sys2Proof Sys2Proof.Machine

/-- Settles O3: the fields by evaluation, and each invariant of a state whose lists are empty. -/
theorem resetHoldsPowerOnValues : Obligations.ResetHoldsPowerOnValues := by
  refine ⟨rfl, rfl, rfl, rfl, rfl, rfl, rfl, rfl, rfl, rfl, rfl, rfl, rfl, rfl, fun k => by cases k <;> rfl,
    fun k => ⟨CounterBank.zeros_get k, CounterBank.zeros_get k⟩, rfl, rfl, rfl, rfl, rfl, rfl, rfl, rfl, rfl, ?_⟩
  exact ⟨RadioPort.initial_ordered false, State.reset_countersOrdered, State.reset_busOrdered, State.reset_peersOrdered,
    State.reset_clientsOrdered, State.reset_roamOrdered, State.reset_streamsOrdered, State.reset_cacheOrdered,
    State.reset_cycleOrdered, State.reset_seatsOrdered⟩

/-- Settles O4: the strap is read on the powered-on state, whichever reset made it. -/
theorem resetReadsTheStrap : Obligations.ResetReadsTheStrap := by
  intro s dt strap initial ends
  refine ⟨fun low high => ?accepted, fun none => ?silent⟩
  case accepted =>
    constructor
    · show Host.Outcome.next _ = _
      rw [State.readStrap_accepted low high]
      rfl
    · show Host.Outcome.next _ = _
      rw [State.readStrap_accepted low high]
      rfl
  case silent =>
    constructor
    · show Host.Outcome.next _ = _
      rw [State.readStrap_silent none, State.enterSilent_eq rfl rfl]
      rfl
    · show Host.Outcome.next _ = _
      rw [State.readStrap_silent none, State.enterSilent_eq rfl rfl]
      rfl

end

section
/-! SUPPORT. Quiet timers and the resets of the Roam Engine and the Counter Bank. -/

namespace Sys2Proof.Machine

theorem State.reached_iff (s : State) (t : Time) : s.reached t = true ↔ t ≤ s.now := decide_eq_true_iff

theorem State.reached_elapse {s : State} {dt t : Time} (due : t ≤ s.now + dt) : (s.elapse dt).reached t = true :=
  (State.reached_iff _ _).mpr due

end Sys2Proof.Machine

open Sys2Proof Sys2Proof.Machine

/-- Settles O34: each timer's command finds its field, reached. -/
theorem quietTimersEndTheirField : Obligations.QuietTimersEndTheirField := by
  intro s dt c
  refine ⟨?sighting, ?backoff, ?holdDown, ?contextWait⟩
  case sighting =>
    intro g found due
    simp only [exec, execSightingExpiry, State.elapse_findSighting, found, State.reached_elapse due, if_true]
    rfl
  case backoff =>
    intro g until_ found status due
    refine ⟨(s.elapse dt).updateSighting c (fun g => { g with status := .seen }), ?_, rfl, ?_, fun d other => ?_⟩
    · simp only [exec, execBackoffExpiry, State.elapse_findSighting, found, status, State.reached_elapse due, if_true]
    · rw [State.findSighting_updateSighting_self _ _ (f := fun g => { g with status := .seen }) fun _ => rfl,
          State.elapse_findSighting, found, Option.map_some]
    · rw [State.findSighting_updateSighting_other _ (f := fun g => { g with status := .seen }) (fun _ => rfl) other, State.elapse_findSighting]
  case holdDown =>
    intro e until_ found holds due
    simp only [exec, execHoldDownExpiry, State.elapse_findEntry, found, Option.bind_some, holds, State.reached_elapse due,
      if_true]
  case contextWait =>
    intro e w found waits due
    simp only [exec, execContextWaitExpiry, State.elapse_findEntry, found, Option.bind_some, waits, State.reached_elapse due,
      if_true, State.endContextWait]

/-- Settles O35: the three commands, each on the state without its frame. -/
theorem roamAndCounterResets : Obligations.RoamAndCounterResets := by
  intro s dt started
  refine ⟨fun carried => ?_, fun carried => ?_, fun carried => ?_⟩
  · rw [exec_blockResetRoam dt carried, State.onFrame_of_started started]
    rfl
  · rw [exec_blockResetCounters dt carried, State.onFrame_of_started started]
    rfl
  · rw [exec_harvestRequest dt carried, State.onFrame_of_started started]
    rfl

end

section
/-! SUPPORT. Bytes read and written (R201): numbers, fields, flags and enumerated values. -/

namespace Sys2Proof.Machine

/-! ## Numbers -/

@[simp] theorem beBytes_length (k n : Nat) : (beBytes k n).length = k := by
  induction k with
  | zero => rfl
  | succ k ih => rw [beBytes, List.length_cons, ih]

theorem beNat_append (xs ys : List Byte) : beNat (xs ++ ys) = beNat xs * 256 ^ ys.length + beNat ys := by
  induction ys using List.reverseRecOn with
  | nil => simp [beNat]
  | append_singleton ys y ih =>
    have last (zs : List Byte) : beNat (zs ++ [y]) = beNat zs * 256 + y.toNat := by simp [beNat]
    rw [← List.append_assoc, last, ih, last, List.length_append, List.length_singleton, Nat.pow_succ]
    ring

theorem beNat_cons (x : Byte) (ys : List Byte) : beNat (x :: ys) = x.toNat * 256 ^ ys.length + beNat ys := by
  have h := beNat_append [x] ys
  simpa [beNat] using h

theorem beNat_beBytes (k n : Nat) : beNat (beBytes k n) = n % 256 ^ k := by
  induction k with
  | zero => simp [beBytes, beNat, Nat.mod_one]
  | succ k ih =>
    have split : n % (256 ^ k * 256) = n % 256 ^ k + 256 ^ k * (n / 256 ^ k % 256) := Nat.mod_mul
    rw [beBytes, beNat_cons, ih, beBytes_length, BitVec.toNat_ofNat, Nat.pow_succ 256, split, Nat.mul_comm, Nat.add_comm]

/-! ## Fields -/

theorem slice_append_left {xs : List Byte} {n : Nat} (ys : List Byte) (whole : xs.length = n) :
    slice (xs ++ ys) 0 n = xs := by
  simp [slice, whole]

theorem slice_append_right {xs : List Byte} {i : Nat} (ys : List Byte) (n : Nat) (past : xs.length ≤ i) :
    slice (xs ++ ys) i n = slice ys (i - xs.length) n := by
  rw [slice, slice, List.drop_append, List.drop_eq_nil_of_le past, List.nil_append]

theorem slice_cons {i : Nat} (x : Byte) (xs : List Byte) (n : Nat) (past : 0 < i) : slice (x :: xs) i n = slice xs (i - 1) n := by
  have h := slice_append_right (xs := [x]) xs n (i := i) past
  simpa using h

/-- A slice that lies within the record, byte by byte. -/
theorem slice_succ {bs : List Byte} {i : Nat} (n : Nat) (within : i < bs.length) :
    slice bs i (n + 1) = bs.getD i 0 :: slice bs (i + 1) n := by
  rw [slice, slice, List.drop_eq_getElem_cons within, List.take_succ_cons, List.getD_eq_getElem _ _ within]

theorem fieldAt_one (bs : List Byte) (i : Nat) : fieldAt bs i 1 = (bs.getD i 0).toNat := by
  by_cases within : i < bs.length
  · rw [fieldAt, slice_succ 0 within]
    simp [slice, beNat]
  · have past : bs.length ≤ i := by omega
    simp [fieldAt, slice, List.drop_eq_nil_of_le past, List.getElem?_eq_none past, beNat]

theorem fieldAt_two {bs : List Byte} {i : Nat} (within : i + 1 < bs.length) :
    fieldAt bs i 2 = 256 * (bs.getD i 0).toNat + (bs.getD (i + 1) 0).toNat := by
  rw [fieldAt, slice_succ 1 (by omega), slice_succ 0 within, beNat_cons]
  simp [slice, beNat]
  ring

theorem beNat_lt (bs : List Byte) : beNat bs < 256 ^ bs.length := by
  induction bs with
  | nil => simp [beNat]
  | cons x xs ih =>
    have byte := x.isLt
    rw [beNat_cons, List.length_cons, Nat.pow_succ]
    nlinarith

theorem fieldAt_lt (bs : List Byte) (i n : Nat) : fieldAt bs i n < 256 ^ n :=
  lt_of_lt_of_le (beNat_lt _) (Nat.pow_le_pow_right (by decide) (List.length_take_le _ _))

/-! ## Enumerated values -/

theorem enumValue_eq_some_iff {α : Type} {table : List α} {code : Nat} {x : α} :
    enumValue table code = some x ↔ ∃ i, code = i + 1 ∧ table[i]? = some x := by
  cases code with
  | zero => simp [enumValue]
  | succ i => simp [enumValue]

/-! ## Flags -/

theorem testBit_flags (flags : List Bool) (i : Nat) :
    (flags.foldr (fun (f : Bool) acc => acc * 2 + f.toNat) 0).testBit i = flags.getD i false := by
  induction flags generalizing i with
  | nil => simp
  | cons f fs ih =>
    rw [List.foldr_cons]
    cases i with
    | zero => cases f <;> simp [Nat.testBit_zero, Nat.add_mod]
    | succ i =>
      rw [Nat.testBit_succ]
      have half (a : Nat) : (a * 2 + f.toNat) / 2 = a := by cases f <;> simp <;> omega
      rw [half, ih, List.getD_cons_succ]

theorem flagsByte_getLsbD (flags : List Bool) {i : Nat} (low : i < 8) : (flagsByte flags).getLsbD i = flags.getD i false := by
  rw [flagsByte, BitVec.getLsbD_ofNat, testBit_flags]
  simp [low]

end Sys2Proof.Machine
end

section
/-! SUPPORT. Uplink records and downlink records (13.5). -/

namespace Sys2Proof.Machine

/-- The record made of the common fields and a body, unless R171 discards it. -/
def uplinkWith (bs : List Byte) (body : UplinkBody) : Option UplinkRecord :=
  if clientAt bs 1 = 0 ∨ 31 < fieldAt bs 8 1 then none
  else some { client := clientAt bs 1, rssi := signedAt bs 7, cell := fieldAt bs 8 1, body := body }

theorem uplinkWith_eq_some_iff {bs : List Byte} {body : UplinkBody} {r : UplinkRecord} :
    uplinkWith bs body = some r ↔
      r.client = BitVec.ofNat 48 (fieldAt bs 1 6) ∧ r.client ≠ 0 ∧ r.rssi = (bs.getD 7 0).toInt ∧
        r.cell = (bs.getD 8 0).toNat ∧ (bs.getD 8 0).toNat ≤ 31 ∧ r.body = body := by
  obtain ⟨client, rssi, cell, body'⟩ := r
  rw [uplinkWith, fieldAt_one]
  by_cases discarded : clientAt bs 1 = 0 ∨ 31 < (bs.getD 8 0).toNat
  · rw [if_pos discarded]
    refine ⟨nofun, ?_⟩
    rintro ⟨c, named, -, -, near, -⟩
    simp only at c named
    obtain zero | far := discarded
    · exact absurd (c.trans zero) named
    · omega
  · rw [if_neg discarded]
    simp only [not_or, Nat.not_lt] at discarded
    obtain ⟨named, near⟩ := discarded
    simp only [Option.some.injEq, UplinkRecord.mk.injEq]
    constructor
    · rintro ⟨rfl, rfl, rfl, rfl⟩
      exact ⟨rfl, named, rfl, rfl, near, rfl⟩
    · rintro ⟨rfl, -, rfl, rfl, -, rfl⟩
      exact ⟨rfl, rfl, rfl, rfl⟩

/-- The body that the kind byte and the length let a record have. -/
theorem parseUplink_eq_some_iff {bs : List Byte} {r : UplinkRecord} :
    parseUplink bs = some r ↔
      ((bs.getD 0 0).toNat = 1 ∧ bs.length = 9 ∧ uplinkWith bs .heard = some r) ∨
      ((bs.getD 0 0).toNat = 2 ∧ bs.length = 9 ∧ uplinkWith bs .joinRequest = some r) ∨
      ((bs.getD 0 0).toNat = 3 ∧ bs.length = 9 ∧ uplinkWith bs .leave = some r) ∨
      ((bs.getD 0 0).toNat = 4 ∧ bs.length = 15 ∧
        uplinkWith bs (.capsPiece (fieldAt bs 9 1) (flagAt bs 10 0) (slice bs 11 4)) = some r) ∨
      ((bs.getD 0 0).toNat = 5 ∧ bs.length = 11 ∧ uplinkWith bs (.subscribe (fieldAt bs 9 1) (flagAt bs 10 0)) = some r) ∨
      ((bs.getD 0 0).toNat = 6 ∧ bs.length = 21 ∧ uplinkWith bs (.token (tokenAt bs 9)) = some r) := by
  have byKind : parseUplink bs =
      match (bs.getD 0 0).toNat, bs.length with
      | 1, 9 => uplinkWith bs .heard
      | 2, 9 => uplinkWith bs .joinRequest
      | 3, 9 => uplinkWith bs .leave
      | 4, 15 => uplinkWith bs (.capsPiece (fieldAt bs 9 1) (flagAt bs 10 0) (slice bs 11 4))
      | 5, 11 => uplinkWith bs (.subscribe (fieldAt bs 9 1) (flagAt bs 10 0))
      | 6, 21 => uplinkWith bs (.token (tokenAt bs 9))
      | _, _ => none := rfl
  rw [byKind]
  clear byKind
  generalize (bs.getD 0 0).toNat = kind, bs.length = len
  split
  case h_7 h1 h2 h3 h4 h5 h6 =>
    refine ⟨nofun, ?_⟩
    rintro (⟨k, l, -⟩ | ⟨k, l, -⟩ | ⟨k, l, -⟩ | ⟨k, l, -⟩ | ⟨k, l, -⟩ | ⟨k, l, -⟩)
    · exact (h1 k l).elim
    · exact (h2 k l).elim
    · exact (h3 k l).elim
    · exact (h4 k l).elim
    · exact (h5 k l).elim
    · exact (h6 k l).elim
  all_goals simp

theorem slice_four {bs : List Byte} {i : Nat} (within : i + 3 < bs.length) :
    slice bs i 4 = [bs.getD i 0, bs.getD (i + 1) 0, bs.getD (i + 2) 0, bs.getD (i + 3) 0] := by
  rw [slice_succ 3 (by omega), slice_succ 2 (by omega), slice_succ 1 (by omega), slice_succ 0 (by omega)]
  simp [slice]

theorem beBytes_six (c : ClientId) :
    clientBytes c =
      [c.extractLsb' 40 8, c.extractLsb' 32 8, c.extractLsb' 24 8, c.extractLsb' 16 8, c.extractLsb' 8 8,
        c.extractLsb' 0 8] := by
  have byte (k : Nat) : BitVec.ofNat 8 (c.toNat / 256 ^ k) = c.extractLsb' (8 * k) 8 := by
    apply BitVec.eq_of_toNat_eq
    rw [BitVec.toNat_ofNat, BitVec.extractLsb'_toNat, Nat.shiftRight_eq_div_pow, Nat.pow_mul]
  simp only [clientBytes, beBytes, byte]

/-! ## The transfer (R175, R178) -/

/-- The transfer that runs once none does: of the oldest record, when the unit is ready. -/
def transferOf (ready : Bool) (queue : List Downlink) : Transfer :=
  match ready, queue with
  | true, r :: _ => .sending r.bytes
  | _, _ => .idle

theorem State.startTransfer_of_idle {s : State} (idle : s.rp.transfer = .idle) :
    s.startTransfer = s.setRp { s.rp with transfer := transferOf s.rp.ready s.rp.downlink } := by
  rcases hp : s.rp with ⟨up, down, held, transfer, ready⟩
  rw [hp] at idle
  simp only at idle
  subst idle
  have unchanged : s = s.setRp ⟨up, down, held, .idle, ready⟩ := by rw [← hp, State.setRp_self]
  cases ready with
  | false => simpa [State.startTransfer, hp, transferOf] using unchanged
  | true =>
    cases down with
    | nil => simpa [State.startTransfer, hp, transferOf] using unchanged
    | cons r rest => simp [State.startTransfer, hp, transferOf]

theorem State.startTransfer_of_busy {s : State} (busy : s.rp.transfer ≠ .idle) : s.startTransfer = s := by
  obtain same | ⟨_, _, idle, -⟩ := s.startTransfer_cases
  · exact same
  · exact absurd idle busy

theorem RadioPort.completed_eq (p : RadioPort) :
    p.completed =
      { p with downlink := p.downlink.drop 1 ++ p.held.take 1, held := p.held.drop 1, transfer := .idle } := by
  obtain ⟨up, down, held, transfer, ready⟩ := p
  cases held <;> simp [RadioPort.completed]

theorem flagsByte_two (p q : Bool) : flagsByte [p, q] = BitVec.ofNat 8 (p.toNat + 2 * q.toNat) := by
  cases p <;> cases q <;> rfl

end Sys2Proof.Machine

open Sys2Proof Sys2Proof.Machine

/-- Settles O49: the transfer by whether one runs and whether the unit is ready, and the layouts field by field. -/
theorem radioLinkMovesTheOldestRecord : Obligations.RadioLinkMovesTheOldestRecord := by
  refine ⟨?moves, ?bytes⟩
  case moves =>
    intro s dt p next
    have next_eq : next = transferOf := by
      funext ready queue
      cases ready <;> cases queue <;> rfl
    rw [next_eq]
    refine ⟨fun idle => ?ready, fun busy => ?readyBusy, rfl, ?complete⟩
    case ready =>
      show Host.Outcome.next _ = _
      rw [State.startTransfer_of_idle (by exact idle)]
      rfl
    case readyBusy =>
      show Host.Outcome.next _ = _
      rw [State.startTransfer_of_busy (by exact busy)]
      rfl
    case complete =>
      intro busy queue
      obtain ⟨bytes, running⟩ : ∃ bytes, s.rp.transfer = .sending bytes := by
        cases t : s.rp.transfer with
        | idle => exact absurd t busy
        | sending bytes => exact ⟨bytes, rfl⟩
      have completes : s.rp.completed = { s.rp with downlink := queue, held := s.rp.held.drop 1, transfer := .idle } :=
        s.rp.completed_eq
      simp only [exec, execDownlinkTransferComplete, State.elapse_rp, running, completes]
      rw [State.startTransfer_of_idle (by rfl)]
      rfl
  case bytes =>
    refine ⟨fun c code redirect => ?_, fun c station => ?_, fun c code seat => ?_, fun c stream code group => ?_, fun c => ?_,
      fun group stream seq units join rep data => ?_⟩ <;>
      simp [Downlink.bytes, beBytes_six, enumByte, enumCode, beBytes, flagsByte_two]

/-- Settles O10: the arrival by the queue's room, and the layout by the kind byte and the length. -/
theorem arrivingRecordIsQueuedOrDropped : Obligations.ArrivingRecordIsQueuedOrDropped := by
  refine ⟨fun s dt record => ⟨fun discarded => ?_, fun r parsed => ⟨fun room => ?_, fun full => ?_⟩⟩, fun record r => ?_⟩
  · simp only [exec, execUplinkRecordArrival, discarded]
  · have place : (s.elapse dt).rp.uplink.length < uplinkPlaces := room
    simp only [exec, execUplinkRecordArrival, parsed, if_pos place]
    rfl
  · have noPlace : ¬ (s.elapse dt).rp.uplink.length < uplinkPlaces := Nat.not_lt.mpr full
    simp only [exec, execUplinkRecordArrival, parsed, if_neg noPlace]
  · simp only [parseUplink_eq_some_iff, uplinkWith_eq_some_iff, fieldAt_one, flagAt, tokenAt, serialAt]
    constructor
    · rintro (⟨k, l, client, named, rssi, cell, near, body⟩ | ⟨k, l, client, named, rssi, cell, near, body⟩ |
        ⟨k, l, client, named, rssi, cell, near, body⟩ | ⟨k, l, client, named, rssi, cell, near, body⟩ |
        ⟨k, l, client, named, rssi, cell, near, body⟩ | ⟨k, l, client, named, rssi, cell, near, body⟩)
      all_goals refine ⟨client, named, rssi, cell, near, ?_⟩
      · exact .inl ⟨k, l, body⟩
      · exact .inr (.inl ⟨k, l, body⟩)
      · exact .inr (.inr (.inl ⟨k, l, body⟩))
      · exact .inr (.inr (.inr (.inl ⟨k, l, by rw [body, slice_four (by omega)]⟩)))
      · exact .inr (.inr (.inr (.inr (.inl ⟨k, l, body⟩))))
      · exact .inr (.inr (.inr (.inr (.inr ⟨k, l, body⟩))))
    · rintro ⟨client, named, rssi, cell, near, ⟨k, l, body⟩ | ⟨k, l, body⟩ | ⟨k, l, body⟩ | ⟨k, l, body⟩ | ⟨k, l, body⟩ |
        ⟨k, l, body⟩⟩
      · exact .inl ⟨k, l, client, named, rssi, cell, near, body⟩
      · exact .inr (.inl ⟨k, l, client, named, rssi, cell, near, body⟩)
      · exact .inr (.inr (.inl ⟨k, l, client, named, rssi, cell, near, body⟩))
      · exact .inr (.inr (.inr (.inl ⟨k, l, client, named, rssi, cell, near, by rw [body, slice_four (by omega)]⟩)))
      · exact .inr (.inr (.inr (.inr (.inl ⟨k, l, client, named, rssi, cell, near, body⟩))))
      · exact .inr (.inr (.inr (.inr (.inr ⟨k, l, client, named, rssi, cell, near, body⟩))))

end

section
/-! SUPPORT. The station record's fields and their clamps (R195, 13.6), and the seat table made from its block (R73). -/

namespace Sys2Proof.Machine

/-! ## Clamps -/

theorem clampNat_range {lo hi : Nat} (n : Nat) (le : lo ≤ hi) : lo ≤ clampNat lo hi n ∧ clampNat lo hi n ≤ hi := by
  unfold clampNat
  omega

theorem clampInt_range {lo hi : Int} (n : Int) (le : lo ≤ hi) : lo ≤ clampInt lo hi n ∧ clampInt lo hi n ≤ hi := by
  unfold clampInt
  omega

theorem settleBlock_eq (first last : Nat) :
    settleBlock first last =
      if first = 0 ∨ max 1 (min 999 last) < max 1 (min 999 first) then none
      else some { first := max 1 (min 999 first), last := min (max 1 (min 999 last)) (max 1 (min 999 first) + 23) } := by
  unfold settleBlock clampNat
  by_cases absent : first = 0
  · simp [absent]
  · by_cases crossed : max 1 (min 999 last) < max 1 (min 999 first)
    · simp [absent, crossed]
    · simp [absent, crossed, blockSeats]

theorem settleBlock_range {first last : Nat} {b : SeatBlock} (h : settleBlock first last = some b) :
    1 ≤ b.first ∧ b.first ≤ b.last ∧ b.last ≤ 999 ∧ b.last ≤ b.first + 23 := by
  rw [settleBlock_eq] at h
  obtain ⟨kept, made⟩ := Option.ite_none_left_eq_some.mp h
  cases made
  rw [not_or, Nat.not_lt] at kept
  obtain ⟨-, uncrossed⟩ := kept
  have range : ∀ f l : Nat, 1 ≤ f → f ≤ l → l ≤ 999 →
      1 ≤ f ∧ f ≤ min l (f + 23) ∧ min l (f + 23) ≤ 999 ∧ min l (f + 23) ≤ f + 23 := by
    omega
  exact range (max 1 (min 999 first)) (max 1 (min 999 last)) (by omega) uncrossed (by omega)

/-! ## Modes -/

theorem enumAt_modes (r : List Byte) (i : Nat) :
    enumAt AnnounceMode.table r i =
      if (r.getD i 0).toNat = 1 then some .off
      else if (r.getD i 0).toNat = 2 then some .periodic
      else if (r.getD i 0).toNat = 3 then some .bestEffort else none := by
  rw [enumAt]
  generalize (r.getD i 0).toNat = code
  match code with
  | 0 => rfl
  | 1 => rfl
  | 2 => rfl
  | 3 => rfl
  | n + 4 => simp [enumValue, AnnounceMode.table]

theorem presenceModeAt_eq (r : List Byte) (i : Nat) :
    presenceModeAt r i = if (r.getD i 0).toNat = 2 then .periodic else .bestEffort := by
  rw [presenceModeAt, enumAt_modes]
  split_ifs <;> simp_all

theorem presenceModeAt_ne_off (r : List Byte) (i : Nat) : presenceModeAt r i ≠ .off := by
  rw [presenceModeAt_eq]
  split_ifs <;> decide

theorem loadModeAt_eq (r : List Byte) (i : Nat) :
    loadModeAt r i =
      if (r.getD i 0).toNat = 1 then .off else if (r.getD i 0).toNat = 2 then .periodic else .bestEffort := by
  rw [loadModeAt, enumAt_modes]
  split_ifs <;> rfl

/-! ## The mask -/

/-- The bits of three bytes, the last one lowest. -/
theorem getLsbD_three_bytes (x y z : Byte) {i : Nat} (low : i < 24) :
    (BitVec.ofNat 24 (beNat [x, y, z])).getLsbD i =
      if i < 8 then z.getLsbD i else if i < 16 then y.getLsbD (i - 8) else x.getLsbD (i - 16) := by
  have whole : BitVec.ofNat 24 (beNat [x, y, z]) = (x ++ y) ++ z := by
    apply BitVec.eq_of_toNat_eq
    have hx := x.isLt
    have hy := y.isLt
    have hz := z.isLt
    rw [BitVec.toNat_append, BitVec.toNat_append, ← Nat.shiftLeft_add_eq_or_of_lt hz, ← Nat.shiftLeft_add_eq_or_of_lt hy]
    simp [beNat, Nat.shiftLeft_eq]
    omega
  rw [whole, BitVec.getLsbD_append, BitVec.getLsbD_append]
  by_cases first : i < 8
  · simp [first]
  · by_cases second : i < 16
    · simp [first, second, show i - 8 < 8 by omega]
    · simp [first, second, show ¬ i - 8 < 8 by omega, show i - 8 - 8 = i - 16 by omega]

theorem fieldAt_three {bs : List Byte} {i : Nat} (within : i + 2 < bs.length) :
    fieldAt bs i 3 = beNat [bs.getD i 0, bs.getD (i + 1) 0, bs.getD (i + 2) 0] := by
  rw [fieldAt, slice_succ 2 (by omega), slice_succ 1 (by omega), slice_succ 0 (by omega)]
  simp [slice]

theorem paramsOf_mask {r : List Byte} (whole : r.length = 33) {i : Nat} (low : i < 24) :
    (paramsOf r).mask.getLsbD i = (r.getD (26 - i / 8) 0).getLsbD (i % 8) := by
  show (BitVec.ofNat 24 (fieldAt r 24 3)).getLsbD i = _
  rw [fieldAt_three (by omega), getLsbD_three_bytes _ _ _ low]
  by_cases first : i < 8
  · rw [if_pos first, show i / 8 = 0 by omega, show i % 8 = i by omega]
  · by_cases second : i < 16
    · rw [if_neg first, if_pos second, show i / 8 = 1 by omega, show i % 8 = i - 8 by omega]
    · rw [if_neg first, if_neg second, show i / 8 = 2 by omega, show i % 8 = i - 16 by omega]

/-! ## The seat table (R73) -/

theorem seatTable_numbers (b : SeatBlock) :
    (seatTable (some b)).map (·.number) = List.range' b.first (b.last + 1 - b.first) := by
  rw [seatTable, List.map_map, List.range'_eq_map_range]
  rfl

/-! ## The parameters -/

theorem two_bytes_toNat {bs : List Byte} {i : Nat} (within : i + 1 < bs.length) :
    (BitVec.ofNat 16 (fieldAt bs i 2)).toNat = 256 * (bs.getD i 0).toNat + (bs.getD (i + 1) 0).toNat := by
  have hx := (bs.getD i 0).isLt
  have hy := (bs.getD (i + 1) 0).isLt
  rw [BitVec.toNat_ofNat, fieldAt_two within]
  omega

end Sys2Proof.Machine

open Sys2Proof Sys2Proof.Machine

/-- Settles O7: each clamp's range for any bytes, and each field's own bytes for a whole record. -/
theorem parametersLieInTheirRanges : Obligations.ParametersLieInTheirRanges := by
  refine ⟨fun r => ?ranges, fun r whole => ?fields, rfl, fun b => ⟨seatTable_numbers b, fun x hx => seatTable_vacant hx⟩⟩
  case ranges =>
    have margin : fieldAt r 15 1 < 256 ^ 1 := fieldAt_lt r 15 1
    refine ⟨clampNat_range _ (by decide), clampInt_range _ (by decide), clampInt_range _ (by decide), Nat.le_of_lt_succ margin,
      (clampNat_range (lo := 0) (hi := 1010) _ (by decide)).2, clampNat_range _ (by decide), presenceModeAt_ne_off r 20,
      clampNat_range _ (by decide), clampNat_range _ (by decide), clampNat_range _ (by decide), clampNat_range _ (by decide),
      fun b found => settleBlock_range found⟩
  case fields =>
    have word {i : Nat} (within : i + 1 < 33) :
        fieldAt r i 2 = 256 * (r.getD i 0).toNat + (r.getD (i + 1) 0).toNat := fieldAt_two (by omega)
    have code {i : Nat} (within : i + 1 < 33) :
        (BitVec.ofNat 16 (fieldAt r i 2)).toNat = 256 * (r.getD i 0).toNat + (r.getD (i + 1) 0).toNat :=
      two_bytes_toNat (by omega)
    refine ⟨⟨_, rfl, code (by decide), code (by decide), code (by decide)⟩, ?_, ?_, rfl, rfl, fieldAt_one r 15, ?_, ?_,
      presenceModeAt_eq r 20, loadModeAt_eq r 21, ?_, ?_, fun i low => paramsOf_mask whole low, ?_, ?_⟩
    · show settleBlock _ _ = _
      rw [settleBlock_eq, word (by decide), word (by decide)]
    · show clampNat 1 48 _ = _
      rw [fieldAt_one, clampNat]
    · show clampNat 0 1010 _ = _
      rw [word (by decide), clampNat, Nat.zero_max]
    · show clampNat 50 1000 _ = _
      rw [word (by decide), clampNat]
    · show clampNat 2 32 _ = _
      rw [fieldAt_one, clampNat]
    · show clampNat 2 20 _ = _
      rw [fieldAt_one, clampNat]
    · show clampNat 30 600 _ = _
      rw [word (by decide), clampNat]
    · show clampNat 60 1800 _ = _
      rw [word (by decide), clampNat]

end

section
/-! SUPPORT. A frame's bytes read back (R155, R156, R165, R202): each part of a layout is what was written there, a message's payload
gives the message, and the whole frame passes the tests of reception. -/

namespace Sys2Proof.Machine

/-! ## Reading past a part -/

theorem fieldAt_append_right {xs : List Byte} {i : Nat} (ys : List Byte) (n : Nat) (past : xs.length ≤ i) :
    fieldAt (xs ++ ys) i n = fieldAt ys (i - xs.length) n := by
  rw [fieldAt, fieldAt, slice_append_right ys n past]

theorem fieldAt_cons {i : Nat} (x : Byte) (xs : List Byte) (n : Nat) (past : 0 < i) :
    fieldAt (x :: xs) i n = fieldAt xs (i - 1) n := by
  rw [fieldAt, fieldAt, slice_cons x xs n past]

theorem enumAt_append_right {α : Type} (table : List α) {xs : List Byte} {i : Nat} (ys : List Byte) (past : xs.length ≤ i) :
    enumAt table (xs ++ ys) i = enumAt table ys (i - xs.length) := by
  rw [enumAt, enumAt, List.getD_append_right _ _ _ _ past]

theorem enumAt_cons {α : Type} (table : List α) {i : Nat} (x : Byte) (xs : List Byte) (past : 0 < i) :
    enumAt table (x :: xs) i = enumAt table xs (i - 1) :=
  enumAt_append_right table (xs := [x]) xs past

theorem flagAt_append_right {xs : List Byte} {i : Nat} (ys : List Byte) (j : Nat) (past : xs.length ≤ i) :
    flagAt (xs ++ ys) i j = flagAt ys (i - xs.length) j := by
  rw [flagAt, flagAt, List.getD_append_right _ _ _ _ past]

theorem flagAt_cons {i : Nat} (x : Byte) (xs : List Byte) (j : Nat) (past : 0 < i) :
    flagAt (x :: xs) i j = flagAt xs (i - 1) j :=
  flagAt_append_right (xs := [x]) xs j past

/-! ## Reading a part back -/

theorem fieldAt_append_left {xs : List Byte} {n : Nat} (ys : List Byte) (whole : xs.length = n) :
    fieldAt (xs ++ ys) 0 n = beNat xs := by
  rw [fieldAt, slice_append_left ys whole]

theorem fieldAt_beBytes (k n : Nat) (ys : List Byte) : fieldAt (beBytes k n ++ ys) 0 k = n % 256 ^ k := by
  rw [fieldAt_append_left ys (beBytes_length k n), beNat_beBytes]

theorem fieldAt_beBytes_of_lt {k n : Nat} (small : n < 256 ^ k) (ys : List Byte) : fieldAt (beBytes k n ++ ys) 0 k = n := by
  rw [fieldAt_beBytes, Nat.mod_eq_of_lt small]

theorem fieldAt_beBytes_last {k n : Nat} (small : n < 256 ^ k) : fieldAt (beBytes k n) 0 k = n := by
  have h := fieldAt_beBytes_of_lt small []
  rwa [List.append_nil] at h

@[simp] theorem clientBytes_length (c : ClientId) : (clientBytes c).length = 6 := beBytes_length 6 c.toNat

@[simp] theorem serialBytes_length (n : Serial) : (serialBytes n).length = 4 := beBytes_length 4 n.toNat

@[simp] theorem clientAt_clientBytes (c : ClientId) (ys : List Byte) : clientAt (clientBytes c ++ ys) 0 = c := by
  rw [clientAt, clientBytes, fieldAt_beBytes_of_lt c.isLt, BitVec.ofNat_toNat, BitVec.setWidth_eq]

@[simp] theorem clientAt_clientBytes_last (c : ClientId) : clientAt (clientBytes c) 0 = c := by
  have h := clientAt_clientBytes c []
  rwa [List.append_nil] at h

theorem clientAt_append_right {xs : List Byte} {i : Nat} (ys : List Byte) (past : xs.length ≤ i) :
    clientAt (xs ++ ys) i = clientAt ys (i - xs.length) := by
  rw [clientAt, clientAt, fieldAt_append_right ys 6 past]

@[simp] theorem serialAt_serialBytes (n : Serial) (ys : List Byte) : serialAt (serialBytes n ++ ys) 0 = n := by
  rw [serialAt, serialBytes, fieldAt_beBytes_of_lt n.isLt, BitVec.ofNat_toNat, BitVec.setWidth_eq]

theorem serialAt_append_right {xs : List Byte} {i : Nat} (ys : List Byte) (past : xs.length ≤ i) :
    serialAt (xs ++ ys) i = serialAt ys (i - xs.length) := by
  rw [serialAt, serialAt, fieldAt_append_right ys 4 past]

/-- A code's two bytes. -/
@[simp] theorem codeAt_codeBytes (n : Code) (ys : List Byte) :
    BitVec.ofNat 16 (fieldAt (beBytes 2 n.toNat ++ ys) 0 2) = n := by
  rw [fieldAt_beBytes_of_lt n.isLt, BitVec.ofNat_toNat, BitVec.setWidth_eq]

/-- The byte of a value that its table names reads back as that value. -/
theorem enumAt_enumByte {α : Type} [BEq α] [LawfulBEq α] {table : List α} {x : α} (named : x ∈ table)
    (short : table.length < 256) (ys : List Byte) : enumAt table (enumByte table x :: ys) 0 = some x := by
  have place := List.idxOf_lt_length_of_mem named
  have code : (enumByte table x).toNat = table.idxOf x + 1 := by
    rw [enumByte, enumCode, BitVec.toNat_ofNat]
    omega
  rw [enumAt, List.getD_cons_zero, code]
  exact enumValue_eq_some_iff.mpr ⟨_, rfl, by rw [List.getElem?_eq_getElem place, List.getElem_idxOf]⟩

/-- A run of items of one width reads back, whatever comes before and after it. -/
theorem map_read_flatMap {α : Type} {read : List Byte → Nat → α} {write : α → List Byte} {w : Nat}
    (width : ∀ x, (write x).length = w) (skip : ∀ (xs ys : List Byte) (i : Nat), read (xs ++ ys) (xs.length + i) = read ys i)
    (l : List α) (back : ∀ x ∈ l, ∀ ys, read (write x ++ ys) 0 = x) (pre post : List Byte) :
    (List.range l.length).map (fun i => read (pre ++ (l.flatMap write ++ post)) (pre.length + w * i)) = l := by
  induction l generalizing pre with
  | nil => rfl
  | cons x xs ih =>
    have rest := ih (fun y hy => back y (List.mem_cons_of_mem x hy)) (pre ++ write x)
    rw [List.length_cons, List.range_succ_eq_map, List.map_cons, List.map_map]
    congr 1
    · rw [skip, List.flatMap_cons, List.append_assoc]
      exact back x List.mem_cons_self _
    · conv_rhs => rw [← rest]
      apply List.map_congr_left
      intro i _
      simp only [Function.comp_apply, List.flatMap_cons, List.append_assoc, List.length_append, width]
      congr 1
      rw [Nat.mul_succ]
      omega

/-! ## The context (13.4) -/

@[simp] theorem Binding.bytes_length (b : Binding) : b.bytes.length = 7 := by simp [Binding.bytes]

theorem bindingAt_bytes {b : Binding} (seat : b.seat < 65536) (owner : b.owner < 256) (ys : List Byte) :
    bindingAt (b.bytes ++ ys) 0 = b := by
  simp [bindingAt, Binding.bytes, fieldAt_append_right, serialAt_append_right, fieldAt_beBytes_of_lt, seat, owner]

theorem bindingAt_skip (xs ys : List Byte) (i : Nat) : bindingAt (xs ++ ys) (xs.length + i) = bindingAt ys i := by
  simp only [bindingAt, Nat.add_assoc]
  rw [fieldAt_append_right _ _ (by omega), fieldAt_append_right _ _ (by omega), serialAt_append_right _ (by omega)]
  simp

/-- The capability record's length as a context counts it: that of its opaque bytes. -/
def recordCount (r : Option CapRecord) : Nat := r.elim 0 (·.bytes.length)

theorem recordBytes_length (r : Option CapRecord) (long : ∀ x, r = some x → 4 ≤ x.bytes.length) :
    (recordBytes r).length = if recordCount r = 0 then 0 else recordCount r + 2 := by
  cases r with
  | none => rfl
  | some x =>
    have := long x rfl
    have nonempty : ¬ x.bytes.length = 0 := by omega
    show (beBytes 1 x.maxSubscriptions ++ [enumByte Tier.table x.tier] ++ x.bytes).length =
      if x.bytes.length = 0 then 0 else x.bytes.length + 2
    rw [if_neg nonempty, List.length_append, List.length_append, beBytes_length, List.length_singleton]
    omega

theorem recordAt_recordBytes {r : Option CapRecord} (fits : ∀ x, r = some x → x.fits) (pre : List Byte) :
    recordAt (pre ++ recordBytes r) pre.length (recordCount r) = some r := by
  cases r with
  | none => rfl
  | some x =>
    obtain ⟨-, few, long, -⟩ := fits x rfl
    have nonempty : ¬ x.bytes.length = 0 := by omega
    have tier : ∀ ys, enumAt Tier.table (enumByte Tier.table x.tier :: ys) 0 = some x.tier :=
      enumAt_enumByte (by cases x.tier <;> decide) (by decide)
    have subscriptions : fieldAt (beBytes 1 x.maxSubscriptions ++ (enumByte Tier.table x.tier :: x.bytes)) 0 1 =
        x.maxSubscriptions := fieldAt_beBytes_of_lt (by omega) _
    have opaqueBytes : slice (pre ++ (beBytes 1 x.maxSubscriptions ++ (enumByte Tier.table x.tier :: x.bytes))) (pre.length + 2)
        x.bytes.length = x.bytes := by
      rw [slice_append_right _ _ (by omega), slice_append_right _ _ (by simp), slice_cons _ _ _ (by simp)]
      simp [slice]
    have tierAt : enumAt Tier.table (pre ++ (beBytes 1 x.maxSubscriptions ++ (enumByte Tier.table x.tier :: x.bytes)))
        (pre.length + 1) = some x.tier := by
      rw [enumAt_append_right _ _ (by omega), enumAt_append_right _ _ (by simp)]
      simp [tier]
    simp only [recordAt, recordCount, Option.elim_some, if_neg nonempty, recordBytes, List.append_assoc, List.singleton_append]
    rw [tierAt, opaqueBytes, fieldAt_append_right _ _ le_rfl, Nat.sub_self, subscriptions]

theorem Context.bytes_eq (x : Context) :
    x.bytes =
      beBytes 1 x.bindings.length ++ (beBytes 1 x.subscriptions.length ++ (beBytes 1 (recordCount x.record) ++
        (x.bindings.flatMap Binding.bytes ++ (x.subscriptions.flatMap (beBytes 1) ++ recordBytes x.record)))) := by
  simp only [Context.bytes, recordCount, List.append_assoc]

theorem flatMap_length_const {α : Type} {write : α → List Byte} {w : Nat} (width : ∀ x, (write x).length = w) (l : List α) :
    (l.flatMap write).length = w * l.length := by
  induction l with
  | nil => simp
  | cons x xs ih => rw [List.flatMap_cons, List.length_append, ih, width, List.length_cons, Nat.mul_succ, Nat.add_comm]

theorem Context.bytes_length {x : Context} (fits : x.fits) :
    x.bytes.length =
      3 + 7 * x.bindings.length + x.subscriptions.length +
        (if recordCount x.record = 0 then 0 else recordCount x.record + 2) := by
  obtain ⟨-, -, recordFits, -⟩ := fits
  have record := recordBytes_length x.record fun r hr => (recordFits r hr).2.2.1
  rw [x.bytes_eq]
  simp only [List.length_append, beBytes_length, flatMap_length_const Binding.bytes_length,
    flatMap_length_const (beBytes_length 1), record]
  omega

theorem recordCount_range {x : Context} (fits : x.fits) :
    recordCount x.record = 0 ∨ 4 ≤ recordCount x.record ∧ recordCount x.record ≤ 64 := by
  obtain ⟨-, -, recordFits, -⟩ := fits
  cases record : x.record with
  | none => exact .inl rfl
  | some r => exact .inr (recordFits r record).2.2

theorem Context.acceptable_of_fits {x : Context} (fits : x.fits) : x.acceptable = true := by
  obtain ⟨-, -, recordFits, bindings, serials, streams, distinct⟩ := fits
  have recordOk : x.record.all (fun r => decide (1 ≤ r.maxSubscriptions ∧ r.maxSubscriptions ≤ 4)) = true := by
    cases record : x.record with
    | none => rfl
    | some r =>
      obtain ⟨low, high, -⟩ := recordFits r record
      simp [low, high]
  have bindingsOk : x.bindings.all (fun b => b.serial != 0 && decide (1 ≤ b.seat ∧ b.seat ≤ 999)) = true := by
    rw [List.all_eq_true]
    intro b hb
    obtain ⟨serial, low, high, -⟩ := bindings b hb
    rw [Bool.and_eq_true, bne_iff_ne, decide_eq_true_iff]
    exact ⟨serial, low, high⟩
  have streamsOk : x.subscriptions.all (· != 0) = true := by
    rw [List.all_eq_true]
    intro i hi
    obtain ⟨low, -⟩ := streams i hi
    exact bne_iff_ne.mpr (Nat.pos_iff_ne_zero.mp low)
  simp only [Context.acceptable, recordOk, bindingsOk, streamsOk, decide_eq_true serials, decide_eq_true distinct, Bool.and_self]

/-- The bindings written after the three counts read back. -/
theorem Context.bindings_back {x : Context} (fits : x.fits) :
    (List.range x.bindings.length).map (fun i => bindingAt x.bytes (3 + 7 * i)) = x.bindings := by
  obtain ⟨-, -, -, bindings, -⟩ := fits
  have back := map_read_flatMap (write := Binding.bytes) Binding.bytes_length bindingAt_skip x.bindings
    (fun b hb ys => by
      obtain ⟨-, -, seat, owner⟩ := bindings b hb
      exact bindingAt_bytes (lt_of_le_of_lt seat (by decide)) owner ys)
    (beBytes 1 x.bindings.length ++ (beBytes 1 x.subscriptions.length ++ beBytes 1 (recordCount x.record)))
    (x.subscriptions.flatMap (beBytes 1) ++ recordBytes x.record)
  simpa only [x.bytes_eq, List.append_assoc, List.length_append, beBytes_length] using back

/-- The stream IDs written after the bindings read back. -/
theorem Context.subscriptions_back {x : Context} (fits : x.fits) :
    (List.range x.subscriptions.length).map (fun i => fieldAt x.bytes (3 + 7 * x.bindings.length + i) 1) = x.subscriptions := by
  obtain ⟨-, -, -, -, -, streams, -⟩ := fits
  have skip (xs ys : List Byte) (i : Nat) : fieldAt (xs ++ ys) (xs.length + i) 1 = fieldAt ys i 1 := by
    rw [fieldAt_append_right _ _ (by omega), Nat.add_sub_cancel_left]
  have back := map_read_flatMap (read := fun bs i => fieldAt bs i 1) (write := beBytes 1) (beBytes_length 1) skip x.subscriptions
    (fun i hi ys => fieldAt_beBytes_of_lt (streams i hi).2 ys)
    (beBytes 1 x.bindings.length ++ (beBytes 1 x.subscriptions.length ++ (beBytes 1 (recordCount x.record) ++
      x.bindings.flatMap Binding.bytes))) (recordBytes x.record)
  simpa only [x.bytes_eq, List.append_assoc, List.length_append, beBytes_length, flatMap_length_const Binding.bytes_length,
    Nat.one_mul, ← Nat.add_assoc] using back

theorem Context.record_back {x : Context} (fits : x.fits) :
    recordAt x.bytes (3 + 7 * x.bindings.length + x.subscriptions.length) (recordCount x.record) = some x.record := by
  obtain ⟨-, -, recordFits, -⟩ := fits
  have back := recordAt_recordBytes recordFits
    (beBytes 1 x.bindings.length ++ (beBytes 1 x.subscriptions.length ++ (beBytes 1 (recordCount x.record) ++
      (x.bindings.flatMap Binding.bytes ++ x.subscriptions.flatMap (beBytes 1)))))
  simpa only [x.bytes_eq, List.append_assoc, List.length_append, beBytes_length, flatMap_length_const Binding.bytes_length,
    flatMap_length_const (beBytes_length 1), Nat.one_mul, ← Nat.add_assoc] using back

theorem parseContext_bytes {x : Context} (fits : x.fits) : parseContext x.bytes = some x := by
  have bindingCount : fieldAt x.bytes 0 1 = x.bindings.length := by
    rw [x.bytes_eq]
    exact fieldAt_beBytes_of_lt (lt_of_le_of_lt fits.1 (by decide)) _
  have streamCount : fieldAt x.bytes 1 1 = x.subscriptions.length := by
    rw [x.bytes_eq, fieldAt_append_right _ _ (by simp)]
    simpa using fieldAt_beBytes_of_lt (lt_of_le_of_lt fits.2.1 (by decide)) _
  have recordLength : fieldAt x.bytes 2 1 = recordCount x.record := by
    have range := recordCount_range fits
    rw [x.bytes_eq, fieldAt_append_right _ _ (by simp), fieldAt_append_right _ _ (by simp)]
    simpa using fieldAt_beBytes_of_lt (k := 1) (by omega) _
  have wellFormed : ¬ (4 < x.bindings.length ∨ 4 < x.subscriptions.length ∨
      (recordCount x.record ≠ 0 ∧ (recordCount x.record < 4 ∨ 64 < recordCount x.record)) ∨
      x.bytes.length ≠
        3 + 7 * x.bindings.length + x.subscriptions.length +
          (if recordCount x.record = 0 then 0 else recordCount x.record + 2)) := by
    have range := recordCount_range fits
    have bindings := fits.1
    have streams := fits.2.1
    rw [Context.bytes_length fits]
    omega
  simp only [parseContext, bindingCount, streamCount, recordLength, if_neg wellFormed, Context.record_back fits,
    Context.bindings_back fits, Context.subscriptions_back fits, Context.acceptable_of_fits fits, if_true]

theorem Context.bytes_length_range {x : Context} (fits : x.fits) : 3 ≤ x.bytes.length ∧ x.bytes.length ≤ 101 := by
  have range := recordCount_range fits
  have bindings := fits.1
  have streams := fits.2.1
  rw [Context.bytes_length fits]
  split_ifs <;> omega

end Sys2Proof.Machine
end

section
/-! SUPPORT. Each message's payload has a length of its kind and gives the message back (R202), and a frame's bytes pass the tests of
reception (R165). -/

namespace Sys2Proof.Machine

/-! ## Parts of payloads -/

@[simp] theorem enumAt_verdict (x : Verdict) (ys : List Byte) :
    enumAt Verdict.table (enumByte Verdict.table x :: ys) 0 = some x :=
  enumAt_enumByte (by cases x <;> decide) (by decide) ys

@[simp] theorem enumAt_denyReason (x : DenyReason) (ys : List Byte) :
    enumAt DenyReason.table (enumByte DenyReason.table x :: ys) 0 = some x :=
  enumAt_enumByte (by cases x <;> decide) (by decide) ys

@[simp] theorem enumAt_contestReason (x : ContestReason) (ys : List Byte) :
    enumAt ContestReason.table (enumByte ContestReason.table x :: ys) 0 = some x :=
  enumAt_enumByte (by cases x <;> decide) (by decide) ys

@[simp] theorem enumAt_tokenCode (x : TokenCode) (ys : List Byte) :
    enumAt TokenCode.table (enumByte TokenCode.table x :: ys) 0 = some x :=
  enumAt_enumByte (by cases x <;> decide) (by decide) ys

@[simp] theorem enumAt_peerClass (x : PeerClass) (ys : List Byte) :
    enumAt PeerClass.table (enumByte PeerClass.table x :: ys) 0 = some x :=
  enumAt_enumByte (by cases x <;> decide) (by decide) ys

@[simp] theorem enumAt_noticeKind (x : NoticeKind) (ys : List Byte) :
    enumAt NoticeKind.table (enumByte NoticeKind.table x :: ys) 0 = some x :=
  enumAt_enumByte (by cases x <;> decide) (by decide) ys

@[simp] theorem enumAt_tier (x : Tier) (ys : List Byte) : enumAt Tier.table (enumByte Tier.table x :: ys) 0 = some x :=
  enumAt_enumByte (by cases x <;> decide) (by decide) ys

@[simp] theorem enumAt_fill (x : Fill) (ys : List Byte) : enumAt Fill.table (enumByte Fill.table x :: ys) 0 = some x :=
  enumAt_enumByte (by cases x <;> decide) (by decide) ys

@[simp] theorem enumAt_streamStatus (x : StreamStatus) (ys : List Byte) :
    enumAt StreamStatus.table (enumByte StreamStatus.table x :: ys) 0 = some x :=
  enumAt_enumByte (by cases x <;> decide) (by decide) ys

@[simp] theorem enumAt_matchState (x : MatchState) (ys : List Byte) :
    enumAt MatchState.table (enumByte MatchState.table x :: ys) 0 = some x :=
  enumAt_enumByte (by cases x <;> decide) (by decide) ys

@[simp] theorem enumAt_resetTarget (x : ResetTarget) (ys : List Byte) :
    enumAt ResetTarget.table (enumByte ResetTarget.table x :: ys) 0 = some x :=
  enumAt_enumByte (by cases x <;> decide) (by decide) ys

@[simp] theorem enumAt_frameKind (x : FrameKind) (ys : List Byte) :
    enumAt FrameKind.table (enumByte FrameKind.table x :: ys) 0 = some x :=
  enumAt_enumByte (by cases x <;> decide) (by decide) ys

theorem flagAt_flagsByte (flags : List Bool) (ys : List Byte) {j : Nat} (low : j < 8) :
    flagAt (flagsByte flags :: ys) 0 j = flags.getD j false := by
  rw [flagAt, List.getD_cons_zero, flagsByte_getLsbD flags low]

theorem tokenAt_bytes {t : Token} (seat : t.seat < 65536) : tokenAt t.bytes 0 = t := by
  have check : BitVec.ofNat 16 (fieldAt (beBytes 2 t.check.toNat) 0 2) = t.check := by
    have h := codeAt_codeBytes t.check []
    rwa [List.append_nil] at h
  simp [tokenAt, Token.bytes, Token.body, fieldAt_append_right, fieldAt_beBytes_of_lt, seat, check]

@[simp] theorem Token.bytes_length (t : Token) : t.bytes.length = 12 := by simp [Token.bytes, Token.body]

theorem tokenAt_append_right {xs : List Byte} {i : Nat} (ys : List Byte) (past : xs.length ≤ i) :
    tokenAt (xs ++ ys) i = tokenAt ys (i - xs.length) := by
  simp only [tokenAt, serialAt]
  rw [fieldAt_append_right _ _ past, fieldAt_append_right _ _ (by omega), fieldAt_append_right _ _ (by omega),
    fieldAt_append_right _ _ (by omega), fieldAt_append_right _ _ (by omega)]
  simp only [show ∀ k, i + k - xs.length = i - xs.length + k by omega]

@[simp] theorem Holder.bytes_length (h : Holder) : h.bytes.length = 11 := by simp [Holder.bytes]

theorem holderAt_bytes {h : Holder} (fits : h.fits) (ys : List Byte) : holderAt (h.bytes ++ ys) 0 = h := by
  have origin : h.origin < 256 ^ 1 := fits
  simp [holderAt, Holder.bytes, fieldAt_append_right, clientAt_append_right, fieldAt_beBytes_of_lt origin]

theorem holderAt_bytes_last {h : Holder} (fits : h.fits) : holderAt h.bytes 0 = h := by
  have back := holderAt_bytes fits []
  rwa [List.append_nil] at back

theorem holderAt_append_right {xs : List Byte} {i : Nat} (ys : List Byte) (past : xs.length ≤ i) :
    holderAt (xs ++ ys) i = holderAt ys (i - xs.length) := by
  simp only [holderAt, serialAt, clientAt]
  rw [fieldAt_append_right _ _ past, fieldAt_append_right _ _ (by omega), fieldAt_append_right _ _ (by omega)]
  simp only [show ∀ k, i + k - xs.length = i - xs.length + k by omega]

theorem holderAt_cons {i : Nat} (x : Byte) (ys : List Byte) (past : 0 < i) : holderAt (x :: ys) i = holderAt ys (i - 1) :=
  holderAt_append_right (xs := [x]) ys past

/-! ## The snapshot (R188) -/

theorem snapshot_values {v : Vector Counter 24} (small : ∀ k : Fin 24, (v.get k).value < 2 ^ 20) (post : List Byte) (k : Fin 24) :
    fieldAt (v.toList.flatMap (fun c => beBytes 3 c.value) ++ post) (3 * k.val) 3 = (v.get k).value := by
  have skip (xs ys : List Byte) (i : Nat) : fieldAt (xs ++ ys) (xs.length + i) 3 = fieldAt ys i 3 := by
    rw [fieldAt_append_right _ _ (by omega), Nat.add_sub_cancel_left]
  have back := map_read_flatMap (read := fun bs i => fieldAt bs i 3) (write := beBytes 3) (beBytes_length 3) skip
    (v.toList.map (·.value))
    (fun n hn ys => by
      obtain ⟨c, hc, rfl⟩ := List.mem_map.mp hn
      obtain ⟨i, hi, rfl⟩ := List.mem_iff_getElem.mp hc
      rw [Vector.length_toList] at hi
      exact fieldAt_beBytes_of_lt (lt_trans (small ⟨i, hi⟩) (by decide)) ys) [] post
  have at_k := congrArg (fun l => l[k.val]?) back
  simpa [List.flatMap_map, Vector.get] using at_k

theorem snapshot_flags (v : Vector Counter 24) {pre : List Byte} (width : pre.length = 72) (k : Fin 24) :
    flagAt
      (pre ++ [flagsByte ((v.toList.take 8).map (·.saturated)), flagsByte (((v.toList.drop 8).take 8).map (·.saturated)),
        flagsByte ((v.toList.drop 16).map (·.saturated))])
      (72 + k.val / 8) (k.val % 8) = (v.get k).saturated := by
  have bit : k.val % 8 < 8 := Nat.mod_lt _ (by decide)
  have here : v.get k = v[k.val] := rfl
  rw [flagAt_append_right _ _ (by omega), width, Nat.add_sub_cancel_left]
  by_cases first : k.val < 8
  · rw [show k.val / 8 = 0 by omega, flagAt_flagsByte _ _ bit, show k.val % 8 = k.val by omega]
    simp [first, here]
  by_cases second : k.val < 16
  · rw [show k.val / 8 = 1 by omega, flagAt_cons _ _ _ (by decide), flagAt_flagsByte _ _ bit,
      show k.val % 8 = k.val - 8 by omega]
    simp [show k.val - 8 < 8 by omega, show 8 + (k.val - 8) = k.val by omega, here]
  · rw [show k.val / 8 = 2 by omega, flagAt_cons _ _ _ (by decide), flagAt_cons _ _ _ (by decide), flagAt_flagsByte _ _ bit,
      show k.val % 8 = k.val - 16 by omega]
    simp [show 16 + (k.val - 16) = k.val by omega, here]

theorem snapshotAt_bytes {v : Vector Counter 24} (small : ∀ k : Fin 24, (v.get k).value < 2 ^ 20) :
    snapshotAt (snapshotBytes v) = v := by
  have width : (v.toList.flatMap (fun c => beBytes 3 c.value)).length = 72 := by
    rw [flatMap_length_const (w := 3) (fun c : Counter => beBytes_length 3 c.value), Vector.length_toList]
  apply Vector.ext
  intro i hi
  have value := snapshot_values small
    [flagsByte ((v.toList.take 8).map (·.saturated)), flagsByte (((v.toList.drop 8).take 8).map (·.saturated)),
      flagsByte ((v.toList.drop 16).map (·.saturated))] ⟨i, hi⟩
  have flag := snapshot_flags v width ⟨i, hi⟩
  simp only [snapshotAt, snapshotBytes, Vector.getElem_ofFn, value, flag, Nat.mod_eq_of_lt (small ⟨i, hi⟩)]
  rfl

/-! ## Payloads -/

theorem enumByte_streams {ids : List StreamId} (few : ids.length ≤ 8) (small : ∀ i ∈ ids, i < 256) :
    parseMessage .streamWant (beBytes 1 ids.length ++ ids.flatMap (beBytes 1)) = some (.streamWant ids) := by
  have skip (xs ys : List Byte) (i : Nat) : fieldAt (xs ++ ys) (xs.length + i) 1 = fieldAt ys i 1 := by
    rw [fieldAt_append_right _ _ (by omega), Nat.add_sub_cancel_left]
  have count : fieldAt (beBytes 1 ids.length ++ ids.flatMap (beBytes 1)) 0 1 = ids.length :=
    fieldAt_beBytes_of_lt (lt_of_le_of_lt few (by decide)) _
  have back := map_read_flatMap (read := fun bs i => fieldAt bs i 1) (write := beBytes 1) (beBytes_length 1) skip ids
    (fun i hi ys => fieldAt_beBytes_of_lt (small i hi) ys) (beBytes 1 ids.length) []
  simp only [List.append_nil, Nat.one_mul, beBytes_length] at back
  have wellFormed : (beBytes 1 ids.length ++ ids.flatMap (beBytes 1)).length = ids.length + 1 ∧ ids.length ≤ 8 := by
    rw [List.length_append, beBytes_length, flatMap_length_const (beBytes_length 1)]
    omega
  simp only [parseMessage, count, if_pos wellFormed, back]

/-- A payload reads back as its message (R202). -/
theorem parseMessage_payload {m : Message} (fits : m.fits) : parseMessage m.kind m.payload = some m := by
  cases m with
  | roamClaim c n =>
    have small : n < 256 ^ 2 := fits
    simp [Message.kind, Message.payload, parseMessage, fieldAt_append_right, fieldAt_beBytes_last small]
  | roamGrant c x =>
    simp [Message.kind, Message.payload, parseMessage, List.drop_left' (clientBytes_length c),
      parseContext_bytes (show x.fits from fits)]
  | roamDeny c r n =>
    have small : n < 256 ^ 2 := fits
    simp [Message.kind, Message.payload, parseMessage, fieldAt_append_right, enumAt_append_right, fieldAt_cons,
      fieldAt_beBytes_last small]
  | roamReturn c => simp [Message.kind, Message.payload, parseMessage]
  | clientMoved c w =>
    simp [Message.kind, Message.payload, parseMessage, flagAt_append_right, flagAt_flagsByte]
  | contextReply c x =>
    cases x with
    | none => simp [Message.kind, Message.payload, parseMessage, flagAt_append_right, flagAt_flagsByte]
    | some x =>
      have fits : x.fits := fits
      have long := (Context.bytes_length_range fits).1
      have rest : (clientBytes c ++ flagsByte [false] :: x.bytes).drop 7 = x.bytes := by
        rw [List.drop_append, clientBytes_length, List.drop_eq_nil_of_le (by simp)]
        rfl
      have length : ¬ (clientBytes c ++ flagsByte [false] :: x.bytes).length = 7 := by
        rw [List.length_append, clientBytes_length, List.length_cons]
        omega
      simp only [Message.kind, Message.payload, parseMessage, List.append_assoc, List.singleton_append, if_neg length, rest,
        parseContext_bytes fits]
      simp [flagAt_append_right, flagAt_flagsByte]
  | tokenForward c t =>
    have seat : t.seat < 65536 := fits
    simp [Message.kind, Message.payload, parseMessage, tokenAt_append_right, tokenAt_bytes seat]
  | tokenResult c n seat k =>
    have small : seat < 256 ^ 2 := fits
    simp [Message.kind, Message.payload, parseMessage, fieldAt_append_right, enumAt_append_right, serialAt_append_right,
      fieldAt_beBytes_of_lt small]
  | seatReleased c n seat =>
    have small : seat < 256 ^ 2 := fits
    simp [Message.kind, Message.payload, parseMessage, fieldAt_append_right, serialAt_append_right, fieldAt_beBytes_last small]
  | authorityQuery seat r i c =>
    obtain ⟨small, incumbent, challenger⟩ := fits
    simp [Message.kind, Message.payload, parseMessage, enumAt_append_right, holderAt_append_right, holderAt_cons,
      fieldAt_beBytes_of_lt (k := 2) small, holderAt_bytes incumbent, holderAt_bytes_last challenger]
  | authorityAnswer seat v =>
    have small : seat < 256 ^ 2 := fits
    simp [Message.kind, Message.payload, parseMessage, enumAt_append_right, fieldAt_beBytes_of_lt small]
  | presence cls b d a =>
    cases b with
    | none => simp [Message.kind, Message.payload, parseMessage, flagAt_cons, flagAt_flagsByte]
    | some b =>
      obtain ⟨first, last⟩ := fits
      simp [Message.kind, Message.payload, parseMessage, flagAt_cons, flagAt_flagsByte, fieldAt_cons, fieldAt_append_right,
        fieldAt_beBytes_of_lt (k := 2) first, fieldAt_beBytes_last (k := 2) last]
  | load u e l =>
    obtain ⟨hu, he, hl⟩ := fits
    simp [Message.kind, Message.payload, parseMessage, fieldAt_append_right, fieldAt_beBytes_of_lt (k := 1) hu,
      fieldAt_beBytes_of_lt (k := 1) he, fieldAt_beBytes_last (k := 1) hl]
  | streamWant ids => exact enumByte_streams fits.1 fits.2
  | harvest v => simp only [Message.kind, Message.payload, parseMessage, snapshotAt_bytes (show _ from fits)]
  | notice k n =>
    have small : n < 256 ^ 2 := fits
    simp [Message.kind, Message.payload, parseMessage, fieldAt_cons, fieldAt_beBytes_last small]
  | segment stream seq len data =>
    obtain ⟨hs, hl, -⟩ := fits
    have rest : (beBytes 1 stream ++ (beBytes 2 seq.toNat ++ (beBytes 2 len ++ data))).drop 5 = data := by
      simp [List.drop_append, List.drop_eq_nil_of_le]
    simp [Message.kind, Message.payload, parseMessage, fieldAt_append_right, fieldAt_beBytes_of_lt (k := 1) hs,
      fieldAt_beBytes_of_lt (k := 2) hl, rest]
  | streamAnnounce stream t f st =>
    have small : stream < 256 ^ 1 := fits
    simp [Message.kind, Message.payload, parseMessage, enumAt_append_right, enumAt_cons, fieldAt_beBytes_of_lt small]
  | harvestRequest => rfl
  | matchState v => simp [Message.kind, Message.payload, parseMessage]
  | blockReset t => simp [Message.kind, Message.payload, parseMessage]

/-- A payload has a length of its kind (R202). -/
theorem payload_length_ok {m : Message} (fits : m.fits) : m.kind.payloadLengthOk m.payload.length = true := by
  cases m with
  | roamGrant c x =>
    have range := Context.bytes_length_range (show x.fits from fits)
    simp [Message.kind, Message.payload, FrameKind.payloadLengthOk]
    omega
  | contextReply c x =>
    cases x with
    | none => simp [Message.kind, Message.payload, FrameKind.payloadLengthOk]
    | some x =>
      have range := Context.bytes_length_range (show x.fits from fits)
      simp [Message.kind, Message.payload, FrameKind.payloadLengthOk]
      omega
  | presence cls b d a => cases b <;> simp [Message.kind, Message.payload, FrameKind.payloadLengthOk]
  | streamWant ids =>
    have few := fits.1
    simp [Message.kind, Message.payload, FrameKind.payloadLengthOk]
    omega
  | harvest v =>
    simp [Message.kind, Message.payload, FrameKind.payloadLengthOk, snapshotBytes,
      flatMap_length_const (w := 3) (fun c : Counter => beBytes_length 3 c.value)]
  | segment stream seq len data =>
    have short := fits.2.2
    simp [Message.kind, Message.payload, FrameKind.payloadLengthOk]
    omega
  | _ => simp [Message.kind, Message.payload, FrameKind.payloadLengthOk]

theorem payloadLengthOk_le {k : FrameKind} {n : Nat} (ok : k.payloadLengthOk n = true) : n ≤ 1480 := by
  cases k <;> simp [FrameKind.payloadLengthOk] at ok <;> omega

/-! ## Frames -/

theorem crc32Bytes_length (bs : List Byte) : (crc32Bytes bs).length = 4 := by simp [crc32Bytes]

/-- A frame of a known kind whose payload has a length of that kind is judged good. -/
theorem judgeFrame_frame {destination source : Station} {k : FrameKind} {payload : List Byte} (hd : destination < 256)
    (hs : source < 256) (ok : k.payloadLengthOk payload.length = true) :
    judgeFrame (headerBytes destination source k payload.length ++ payload ++
      crc32Bytes (headerBytes destination source k payload.length ++ payload)) = .good destination source k payload := by
  have short := payloadLengthOk_le ok
  have header : (headerBytes destination source k payload.length).length = 5 := by simp [headerBytes]
  generalize hc : crc32Bytes (headerBytes destination source k payload.length ++ payload) = check
  have checkLength : check.length = 4 := by rw [← hc, crc32Bytes_length]
  have length : fieldAt (headerBytes destination source k payload.length ++ (payload ++ check)) 3 2 = payload.length := by
    simp [headerBytes, fieldAt_append_right, fieldAt_cons, fieldAt_beBytes_of_lt (k := 2) (n := payload.length) (by omega)]
  have kind : enumAt FrameKind.table (headerBytes destination source k payload.length ++ (payload ++ check)) 2 = some k := by
    simp [headerBytes, enumAt_append_right]
  have to_ : fieldAt (headerBytes destination source k payload.length ++ (payload ++ check)) 0 1 = destination := by
    simp [headerBytes, fieldAt_beBytes_of_lt (k := 1) hd]
  have from_ : fieldAt (headerBytes destination source k payload.length ++ (payload ++ check)) 1 1 = source := by
    simp [headerBytes, fieldAt_append_right, fieldAt_beBytes_of_lt (k := 1) hs]
  have body : (headerBytes destination source k payload.length ++ payload).length = 5 + payload.length := by
    rw [List.length_append, header]
  have whole : (headerBytes destination source k payload.length ++ (payload ++ check)).length = 9 + payload.length := by
    rw [List.length_append, List.length_append, header, checkLength]
    omega
  have checked : (headerBytes destination source k payload.length ++ (payload ++ check)).drop (5 + payload.length) =
      crc32Bytes ((headerBytes destination source k payload.length ++ (payload ++ check)).take (5 + payload.length)) := by
    rw [← List.append_assoc, List.drop_left' body, List.take_left' body, hc]
  have data : slice (headerBytes destination source k payload.length ++ (payload ++ check)) 5 payload.length = payload := by
    rw [slice_append_right _ _ (by omega), header, slice_append_left _ rfl]
  rw [List.append_assoc]
  simp only [judgeFrame, length, whole, kind, to_, from_, data, ok, checked]
  simp [show ¬ 9 + payload.length < 5 by omega, show ¬ 1480 < payload.length by omega]

end Sys2Proof.Machine

open Sys2Proof Sys2Proof.Machine

/-- Settles O48: the payload has a length of its kind, so the frame is good; and each kind's payload reads back. -/
theorem frameBytesCarryTheMessage : Obligations.FrameBytesCarryTheMessage := by
  intro destination source m hd hs fits
  exact ⟨judgeFrame_frame hd hs (payload_length_ok fits), parseMessage_payload fits⟩

end

section
/-! SUPPORT. The end of the read (R194, R196, R197): what a usable record is, and the node on entering LISTENING with an empty queue. -/

namespace Sys2Proof.Machine

/-! ## The hand-over to a queue with room (R157) -/

theorem State.handOver_of_room {s : State} (transmits : s.sl.nodeState = .listening ∨ s.sl.nodeState = .running)
    (room : s.txCount < 16) (f : TxFrame) : s.handOver f = (s.acceptFrame f, true) := by
  have speaks : ¬ (s.sl.nodeState = .silent ∨ s.sl.nodeState = .starting) := by
    rintro (silent | starting) <;> simp_all
  rw [State.handOver, if_neg speaks, if_pos (show s.txCount < txPlaces from room)]

theorem RowBus.frames_eq_nil_iff (b : RowBus) : b.frames = [] ↔ b.tx = .idle ∧ b.txUrgent = [] ∧ b.txNormal = [] := by
  cases h : b.tx <;> simp [RowBus.frames, Transmitter.hand, h]

theorem State.acceptFrame_of_idle {s : State} {f : TxFrame} (idle : s.rbc.tx = .idle) :
    s.acceptFrame f = (s.reportAccepted f).setRbc { s.rbc with tx := .defer f 0 s.now } := by
  obtain ⟨-, accepted⟩ | ⟨_, _, defers, -⟩ | ⟨busy, -⟩ := s.acceptFrame_cases f
  · simpa using accepted
  · simp [idle] at defers
  · simp [idle] at busy

/-! ## Entering LISTENING (R197) -/

/-- The node in LISTENING with the first PRESENCE in hand. -/
def State.speaking (s : State) (p : Option Params) : State :=
  ((s.configured p).setQueued .presence true).setRbc { s.rbc with tx := .defer (announcementFrame .presence) 0 s.now }

theorem State.enterListening_of_empty {s : State} (p : Option Params) (empty : s.rbc.frames = []) :
    s.enterListening p = if p.isNone then (s.speaking p).armNotice .configDefaulted 0 else s.speaking p := by
  obtain ⟨idle, -, -⟩ := (RowBus.frames_eq_nil_iff _).mp empty
  have room : (s.configured p).txCount < 16 := by simp [State.txCount, empty]
  have first : ((s.configured p).handOver (announcementFrame .presence)).1 = s.speaking p := by
    rw [State.handOver_of_room (.inl (s.configured_nodeState p).1) room, State.acceptFrame_of_idle (by simp [idle])]
    rfl
  show (if p.isNone then ((s.configured p).handOver (announcementFrame .presence)).1.armNotice .configDefaulted 0
    else ((s.configured p).handOver (announcementFrame .presence)).1) = _
  rw [first]

theorem State.reading_of_starting {s : State} {start : Time} (starting : s.sl.nodeState = .starting)
    (began : s.sl.readStarted = some start) (dt : Time) : (s.elapse dt).reading = some start := by
  simp [State.reading, State.isStarting_of_starting starting, began]

theorem readTime_eq : readTime = 100000 := by decide

/-! ## The record (R194) -/

theorem recordUsable_iff (r : List Byte) :
    recordUsable r = true ↔
      r.length = 33 ∧ fieldAt r 0 2 = 0xD7A1 ∧ crc16 0xFFFF#16 (r.take 31) = BitVec.ofNat 16 (fieldAt r 31 2) ∧
        fieldAt r 2 2 ≠ 0 := by
  simp only [recordUsable, Bool.and_eq_true, beq_iff_eq, bne_iff_ne, recordLength, recordMarker, and_assoc]

theorem maskCounters_get (mask : BitVec 24) (v : Vector Counter 24) (k : Fin 24) :
    (maskCounters mask v).get k = if mask.getLsbD k then { value := 0, saturated := false } else v.get k := by
  simp [maskCounters, Vector.get_eq_getElem]

theorem State.speaking_cb (s : State) (p : Option Params) :
    (s.speaking p).cb =
      { counters := maskCounters (p.getD Params.default).mask s.cb.counters, snapshot := s.cb.snapshot } := rfl

theorem State.speaking_counters (s : State) (p : Option Params) (k : Fin 24) :
    (s.speaking p).cb.counters.get k =
      if (p.getD Params.default).mask.getLsbD k then { value := 0, saturated := false } else s.cb.counters.get k := by
  rw [State.speaking_cb]
  exact maskCounters_get _ _ k

theorem State.speaking_snapshot (s : State) (p : Option Params) : (s.speaking p).cb.snapshot = s.cb.snapshot := by
  rw [State.speaking_cb]

/-- In the defaulted configuration with no notice pending, CONFIG_DEFAULTED is the one armed. -/
theorem State.enterListening_defaulted {s : State} (empty : s.rbc.frames = []) (quiet : s.anu.notices = []) :
    s.enterListening none =
      (s.speaking none).setAnu
        { (s.speaking none).anu with notices := [{ kind := .configDefaulted, subject := 0 }] } := by
  have notices : (s.speaking none).anu.notices = [] := quiet
  have listens : (s.speaking none).sl.nodeState ≠ .silent := by
    rw [show (s.speaking none).sl.nodeState = .listening from rfl]
    decide
  rw [State.enterListening_of_empty none empty]
  simp [State.armNotice, notices, listens, noticePlaces]

end Sys2Proof.Machine

open Sys2Proof Sys2Proof.Machine

/-- Settles O5: the record is usable and in time, so the node enters LISTENING under its parameters. -/
theorem usableRecordStartsListening : Obligations.UsableRecordStartsListening := by
  intro s dt r start starting began inTime whole marked checked coded empty
  have usable : recordUsable r = true := (recordUsable_iff r).mpr ⟨whole, marked, checked, coded⟩
  have early : (s.elapse dt).now ≤ start + readTime := by rwa [readTime_eq]
  refine ⟨(s.elapse dt).speaking (some (paramsOf r)), ?_, rfl, rfl, fun k => ?_, State.speaking_snapshot _ _, rfl, rfl, rfl, rfl, rfl⟩
  · simp only [exec, execStationRecordReadDone, State.reading_of_starting starting began, usable, decide_eq_true early,
      Bool.and_self, if_true]
    rw [State.enterListening_of_empty _ (by exact empty)]
    rfl
  · exact State.speaking_counters _ _ k

/-- Settles O6: each cause leads to the defaulted configuration. -/
theorem unusableRecordIsDefaulted : Obligations.UnusableRecordIsDefaulted := by
  intro s dt start c starting began empty quiet cause
  have reading := State.reading_of_starting starting began dt
  have defaults : exec c s = .next ((s.elapse dt).enterListening none) := by
    obtain ⟨rfl, late⟩ | ⟨r, rfl, unusable⟩ := cause
    · have due : (s.elapse dt).reached (start + readTime) = true := State.reached_elapse (by rwa [readTime_eq])
      simp only [exec, execStationRecordReadTimeout, reading, due, if_true]
    · have fails : (recordUsable r && decide ((s.elapse dt).now ≤ start + readTime)) = false := by
        rw [← Bool.not_eq_true, Bool.and_eq_true, recordUsable_iff, decide_eq_true_iff]
        rw [readTime_eq]
        rintro ⟨⟨whole, marked, checked, coded⟩, inTime⟩
        obtain short | late | unmarked | unchecked | uncoded := unusable
        · exact short whole
        · exact Nat.not_le.mpr late inTime
        · exact unmarked marked
        · exact unchecked checked
        · exact coded uncoded
      simp only [exec, execStationRecordReadDone, reading, fails, Bool.false_eq_true, if_false]
  refine ⟨_, defaults.trans (congrArg _ (State.enterListening_defaulted (by exact empty) (by exact quiet))), rfl, rfl,
    fun k => ?_, ?_, rfl, rfl, rfl, rfl, rfl⟩
  · have unmasked : Params.default.mask.getLsbD k = false := BitVec.getLsbD_zero
    rw [State.setAnu_cb, State.speaking_counters, Option.getD_none, unmasked]
    rfl
  · rw [State.setAnu_cb, State.speaking_snapshot, State.elapse_cb]

end

section
/-! SUPPORT. The hand-over of the node's own announcements and notices, which are NORMAL and whose refusal is nobody's loss (R149, R150,
R153, R157). -/

namespace Sys2Proof.Machine

/-! ## Accepting a frame (R157) -/

theorem State.wait_frames (s : State) (f : TxFrame) : (s.wait f).rbc.frames.Perm (f :: s.rbc.frames) := by
  rw [State.wait]
  split_ifs
  · simp only [State.setRbc_rbc, RowBus.frames]
    rw [← List.append_assoc, List.append_assoc _ [f] _]
    exact List.perm_middle
  · simp only [State.setRbc_rbc, RowBus.frames]
    rw [← List.append_assoc]
    exact List.perm_append_singleton _ _

/-- An accepted frame joins the others, whatever place it takes. -/
theorem State.acceptFrame_frames (s : State) (f : TxFrame) : (s.acceptFrame f).rbc.frames.Perm (f :: s.rbc.frames) := by
  have reported : (s.reportAccepted f).rbc = s.rbc := by simp
  obtain ⟨idle, e⟩ | ⟨g, since, hand, -, -, e⟩ | ⟨-, e⟩ := s.acceptFrame_cases f
  · rw [e, State.setRbc_rbc, reported]
    rw [reported] at idle
    simp [RowBus.frames, idle, Transmitter.hand]
  · have same (t : State) (sent : Bool) : (if sent then t.startSending else t).rbc.frames = t.rbc.frames := by
      obtain ⟨hand, -, urgent, normal, -⟩ := State.startSending_line t
      cases sent
      · rfl
      · rw [if_pos rfl, RowBus.frames, RowBus.frames, hand, urgent, normal]
    rw [e, same, State.setRbc_rbc, reported]
    rw [reported] at hand
    simp only [RowBus.frames, hand, Transmitter.hand, Option.toList_some, List.cons_append]
    exact (List.perm_middle).cons f
  · rw [e]
    have waits := (s.reportAccepted f).wait_frames f
    rwa [reported] at waits

theorem State.acceptFrame_txCount (s : State) (f : TxFrame) : (s.acceptFrame f).txCount = s.txCount + 1 :=
  (s.acceptFrame_frames f).length_eq

/-! ## Frames whose refusal nobody hears of -/

/-- A NORMAL frame that is no TOKEN_FORWARD. -/
def TxFrame.plain (f : TxFrame) : Prop := f.urgent = false ∧ ∀ s : State, s.reportRefusal f = s

theorem announcementFrame_plain (k : AnnounceKind) : (announcementFrame k).plain := ⟨rfl, fun _ => rfl⟩

theorem Notice.frame_plain (n : Notice) : n.frame.plain := ⟨rfl, fun _ => rfl⟩

theorem State.handOver_of_full {s : State} (transmits : s.sl.nodeState = .listening ∨ s.sl.nodeState = .running)
    (full : 16 ≤ s.txCount) {f : TxFrame} (plain : f.plain) : s.handOver f = (s.count .txLost, false) := by
  obtain ⟨normal, unheard⟩ := plain
  have speaks : ¬ (s.sl.nodeState = .silent ∨ s.sl.nodeState = .starting) := by
    rintro (silent | starting) <;> simp_all
  rw [State.handOver, if_neg speaks, if_neg (show ¬ s.txCount < txPlaces from Nat.not_lt.mpr full), normal]
  simp only [unheard]

/-! ## Buffers and counts -/

theorem State.updateBuffer_buffer (s : State) (k : AnnounceKind) (f : Buffer → Buffer) :
    (s.updateBuffer k f).anu.buffer k = f (s.anu.buffer k) :=
  Announcement.buffer_setBuffer_self _ _ _

@[simp] theorem State.updateBuffer_rbc (s : State) (k : AnnounceKind) (f : Buffer → Buffer) :
    (s.updateBuffer k f).rbc = s.rbc := rfl

@[simp] theorem State.updateBuffer_cb (s : State) (k : AnnounceKind) (f : Buffer → Buffer) :
    (s.updateBuffer k f).cb = s.cb := rfl

/-- An increment leaves every buffer but HARVEST's as it is, and an armed one. -/
theorem State.count_buffer (s : State) (c : CounterId) {k : AnnounceKind}
    (kept : k ≠ .harvest ∨ (s.anu.buffer k).armed = true) : (s.count c).anu.buffer k = s.anu.buffer k := by
  cases counts : s.masked c with
  | true => rw [State.count_of_masked counts]
  | false =>
    rw [State.count_anu counts]
    cases k with
    | harvest =>
      have armed : s.anu.harvest.armed = true := kept.resolve_left (fun ne => ne rfl)
      simp only [Announcement.buffer, Announcement.armHarvestIf, armed, Bool.true_or]
      rw [← armed]
    | _ => rfl

theorem State.count_snapshot (s : State) (c : CounterId) : (s.count c).cb.snapshot = s.cb.snapshot := by
  cases counts : s.masked c with
  | true => rw [State.count_of_masked counts]
  | false => rw [State.count_cb counts, CounterBank.bump_snapshot]

theorem State.acceptFrame_buffer (s : State) (k : AnnounceKind) :
    (s.acceptFrame (announcementFrame k)).anu.buffer k = { s.anu.buffer k with queued := true } := by
  rw [State.acceptFrame_anu]
  exact State.updateBuffer_buffer s k _

/-! ## Turns (R149, R150) -/

section
variable {s : State} {k : AnnounceKind}

theorem State.bestEffortTurn_of_queued (queued : (s.anu.buffer k).queued = true) :
    s.bestEffortTurn k = s.setSkipped k false := by
  rw [State.bestEffortTurn, if_pos queued]

theorem State.periodicTurn_of_queued (queued : (s.anu.buffer k).queued = true) : s.periodicTurn k = s := by
  rw [State.periodicTurn, if_pos queued]

theorem State.bestEffortTurn_of_crowded (free : (s.anu.buffer k).queued = false)
    (first : (s.anu.buffer k).skippedLast = false) (crowded : 8 < s.txCount) :
    s.bestEffortTurn k = s.setSkipped k true := by
  have skips : ¬ (s.txCount ≤ bestEffortPlaces ∨ (s.anu.buffer k).skippedLast = true) := by
    rw [first]
    simpa [bestEffortPlaces] using crowded
  rw [State.bestEffortTurn, if_neg (by rw [free]; decide), if_neg skips]

theorem State.bestEffortTurn_of_due (free : (s.anu.buffer k).queued = false)
    (due : (s.anu.buffer k).skippedLast = true ∨ s.txCount ≤ 8) :
    s.bestEffortTurn k =
      (s.handOver (announcementFrame k)).1.setSkipped k (!(s.handOver (announcementFrame k)).2) := by
  rw [State.bestEffortTurn, if_neg (by rw [free]; decide),
    if_pos (show s.txCount ≤ bestEffortPlaces ∨ _ from due.symm)]

theorem State.periodicTurn_of_free (free : (s.anu.buffer k).queued = false) :
    s.periodicTurn k = (s.handOver (announcementFrame k)).1 := by
  rw [State.periodicTurn, if_neg (by rw [free]; decide)]

theorem State.onceTurn_of_disarmed (idle : (s.anu.buffer k).armed = false) : s.onceTurn k = s := by
  rw [State.onceTurn, if_neg (by rw [idle]; decide)]

theorem State.onceTurn_of_queued (armed : (s.anu.buffer k).armed = true) (queued : (s.anu.buffer k).queued = true) :
    s.onceTurn k = if s.attempting k then s else (s.refreshContent k).disarm k := by
  rw [State.onceTurn, if_pos armed, if_pos queued]

theorem State.onceTurn_of_free (armed : (s.anu.buffer k).armed = true) (free : (s.anu.buffer k).queued = false) :
    s.onceTurn k =
      if (s.handOver (announcementFrame k)).2 then ((s.handOver (announcementFrame k)).1.refreshContent k).disarm k
      else (s.handOver (announcementFrame k)).1 := by
  rw [State.onceTurn, if_pos armed, if_neg (by rw [free]; decide)]

end

theorem State.refreshContent_cb (s : State) (k : AnnounceKind) :
    (s.refreshContent k).cb = if k = .harvest then { s.cb with snapshot := s.cb.counters } else s.cb := by
  cases k <;> rfl

@[simp] theorem State.refreshContent_anu (s : State) (k : AnnounceKind) : (s.refreshContent k).anu = s.anu := by
  cases k <;> rfl

@[simp] theorem State.refreshContent_rbc (s : State) (k : AnnounceKind) : (s.refreshContent k).rbc = s.rbc := by
  cases k <;> rfl

theorem State.armNotice_of_no_place {s : State} {kind : NoticeKind} {subject : Nat}
    (no : s.sl.nodeState = .silent ∨ (⟨kind, subject⟩ : Notice) ∈ s.anu.notices ∨ 8 ≤ s.anu.notices.length) :
    s.armNotice kind subject = s := by
  rw [State.armNotice]
  exact if_pos no

theorem State.armNotice_of_place {s : State} {kind : NoticeKind} {subject : Nat} (speaks : s.sl.nodeState ≠ .silent)
    (fresh : (⟨kind, subject⟩ : Notice) ∉ s.anu.notices) (place : s.anu.notices.length < 8) :
    s.armNotice kind subject = s.setAnu { s.anu with notices := s.anu.notices ++ [⟨kind, subject⟩] } := by
  rw [State.armNotice]
  exact if_neg (not_or.mpr ⟨speaks, not_or.mpr ⟨fresh, Nat.not_le.mpr place⟩⟩)

theorem State.sendNotice_of_room {s : State} (transmits : s.sl.nodeState = .listening ∨ s.sl.nodeState = .running)
    (room : s.txCount < 16) (n : Notice) :
    s.sendNotice n =
      (s.send 30 (.notice n.kind n.subject)).setAnu
        { s.anu with notices := s.anu.notices.filter (fun x => x != n) } := by
  have taken := State.handOver_of_room transmits room n.frame
  have sent : s.send 30 (.notice n.kind n.subject) = s.acceptFrame n.frame := congrArg Prod.fst taken
  have lists : (s.acceptFrame n.frame).anu = s.anu := s.acceptFrame_anu n.frame
  rw [State.sendNotice, taken, if_pos rfl, sent, lists]

theorem State.sendNotice_of_full {s : State} (transmits : s.sl.nodeState = .listening ∨ s.sl.nodeState = .running)
    (full : 16 ≤ s.txCount) (n : Notice) : s.sendNotice n = s.count .txLost := by
  have refused := State.handOver_of_full transmits full n.frame_plain
  rw [State.sendNotice, refused]
  exact if_neg Bool.false_ne_true

end Sys2Proof.Machine

open Sys2Proof Sys2Proof.Machine

/-- Settles O9: each turn by the flags of its buffer and the room of the queue. -/
theorem buffersTakeTheirTurns : Obligations.BuffersTakeTheirTurns := by
  refine ⟨?turns, fun s n transmits => ⟨fun room => State.sendNotice_of_room transmits room n,
    fun full => State.sendNotice_of_full transmits full n, rfl⟩, fun s kind subject => ⟨State.armNotice_of_no_place,
    State.armNotice_of_place⟩⟩
  case turns =>
    intro s k transmits b
    refine ⟨fun moded => ⟨fun queued => ⟨State.bestEffortTurn_of_queued queued, State.periodicTurn_of_queued queued⟩,
      State.bestEffortTurn_of_crowded, ?dueTaken, ?dueRefused, ?periodicTaken, ?periodicRefused, rfl, rfl, rfl⟩,
      fun once => ⟨State.onceTurn_of_disarmed, ?attempt, ?inPlace, ?onceTaken, ?onceRefused⟩⟩
    case dueTaken =>
      intro free due room
      rw [State.bestEffortTurn_of_due free due, State.handOver_of_room transmits room]
      refine ⟨?_, s.acceptFrame_txCount _⟩
      rw [State.setSkipped, State.updateBuffer_buffer, State.acceptFrame_buffer]
      rfl
    case dueRefused =>
      intro free skipped full
      rw [State.bestEffortTurn_of_due free (.inl skipped),
        State.handOver_of_full transmits full (announcementFrame_plain k)]
      refine ⟨?_, (s.count_frame .txLost).2.2.2.2.2.2.2.1⟩
      rw [State.setSkipped, State.updateBuffer_buffer, State.count_buffer s .txLost (.inl (by rintro rfl; simp at moded))]
      show ({ b with skippedLast := true } : Buffer) = b
      rw [← skipped]
    case periodicTaken =>
      intro free room
      rw [State.periodicTurn_of_free free, State.handOver_of_room transmits room]
      refine ⟨s.acceptFrame_buffer k, ?_⟩
      have joins := s.acceptFrame_frames (announcementFrame k)
      obtain rfl | rfl := moded <;> exact joins
    case periodicRefused =>
      intro free full
      rw [State.periodicTurn_of_free free, State.handOver_of_full transmits full (announcementFrame_plain k)]
    case attempt =>
      intro armed queued attempting
      rw [State.onceTurn_of_queued armed queued, if_pos attempting]
    case inPlace =>
      intro armed queued waits
      rw [State.onceTurn_of_queued armed queued, if_neg (by rw [waits]; decide)]
      refine ⟨?_, s.refreshContent_rbc k, s.refreshContent_cb k⟩
      rw [State.disarm, State.updateBuffer_buffer, State.refreshContent_anu]
    case onceTaken =>
      intro armed free room
      rw [State.onceTurn_of_free armed free, State.handOver_of_room transmits room, if_pos rfl]
      have frames : (((s.acceptFrame (announcementFrame k)).refreshContent k).disarm k).rbc =
          (s.acceptFrame (announcementFrame k)).rbc := State.refreshContent_rbc _ k
      refine ⟨?_, ?_, ?_, ?_⟩
      · rw [State.disarm, State.updateBuffer_buffer, State.refreshContent_anu, State.acceptFrame_buffer]
      · rw [State.txCount, frames]
        exact s.acceptFrame_txCount _
      · rw [frames]
        have joins := s.acceptFrame_frames (announcementFrame k)
        obtain rfl | rfl := once <;> exact joins
      · rw [State.disarm, State.updateBuffer_cb, State.refreshContent_cb]
        simp
    case onceRefused =>
      intro armed free full
      rw [State.onceTurn_of_free armed free, State.handOver_of_full transmits full (announcementFrame_plain k),
        if_neg Bool.false_ne_true]
      exact ⟨s.count_buffer .txLost (.inr armed), (s.count_frame .txLost).2.2.2.2.2.2.2.1, s.count_snapshot .txLost⟩

end

section
/-! SUPPORT. What the announcements of a boundary leave unchanged (R149, R153), and the parts of the boundary (R81, R144, R198). -/

namespace Sys2Proof.Machine

/-! ## What a turn can touch -/

/-- The transmitter, the counters, the buffers and the notices may have changed, and nothing else. -/
def State.Spoke (s t : State) : Prop :=
  t = ((s.setAnu t.anu).setCb t.cb).setRbc t.rbc ∧ t.anu.peers = s.anu.peers ∧
    t.anu.nextBoundary = s.anu.nextBoundary ∧ t.rbc.rxQueue = s.rbc.rxQueue

theorem State.Spoke.refl (s : State) : s.Spoke s := ⟨rfl, rfl, rfl, rfl⟩

theorem State.Spoke.trans {s t u : State} (st : s.Spoke t) (tu : t.Spoke u) : s.Spoke u := by
  obtain ⟨e, peers, boundary, queue⟩ := st
  obtain ⟨e', peers', boundary', queue'⟩ := tu
  refine ⟨?_, peers'.trans peers, boundary'.trans boundary, queue'.trans queue⟩
  rw [e'.trans (by rw [e])]
  rfl

theorem State.Spoke.fold {α : Type} {f : State → α → State} (each : ∀ (s : State) (x : α), s.Spoke (f s x)) (l : List α) (s : State) :
    s.Spoke (l.foldl f s) := by
  induction l generalizing s with
  | nil => exact .refl s
  | cons x xs ih => exact (each s x).trans (ih (f s x))

theorem State.Spoke.setAnu {s : State} {a : Announcement} (peers : a.peers = s.anu.peers)
    (boundary : a.nextBoundary = s.anu.nextBoundary) : s.Spoke (s.setAnu a) :=
  ⟨rfl, peers, boundary, rfl⟩

theorem State.Spoke.setCb (s : State) (b : CounterBank) : s.Spoke (s.setCb b) := ⟨rfl, rfl, rfl, rfl⟩

theorem State.count_spoke (s : State) (k : CounterId) : s.Spoke (s.count k) := by
  obtain ⟨peers, -, boundary⟩ := s.count_lists k
  refine ⟨?_, peers, boundary, by simp⟩
  cases counts : s.masked k with
  | true => rw [State.count_of_masked counts]; rfl
  | false => rw [State.count_of_unmasked counts]; rfl

theorem State.acceptFrame_spoke (s : State) (f : TxFrame) : s.Spoke (s.acceptFrame f) := by
  obtain ⟨peers, -, boundary⟩ := s.acceptFrame_lists f
  refine ⟨State.ext_fields ?_ ?_ ?_ ?_ ?_ ?_ ?_ ?_ ?_ ?_ ?_, peers, boundary, s.acceptFrame_rxQueue f⟩ <;> simp

/-- A plain frame is discarded, accepted or refused, and each touches nothing else. -/
theorem State.handOver_spoke (s : State) {f : TxFrame} (plain : f.plain) : s.Spoke (s.handOver f).1 := by
  obtain ⟨-, e⟩ | ⟨-, e⟩ | ⟨_, _, -, urgent, -⟩ | ⟨-, -, e⟩ := s.handOver_cases f
  · rw [e]; exact .refl s
  · rw [e]; exact s.acceptFrame_spoke f
  · rw [plain.1] at urgent
    exact absurd urgent (by decide)
  · rw [e, plain.2]
    exact s.count_spoke .txLost

theorem State.updateBuffer_spoke (s : State) (k : AnnounceKind) (f : Buffer → Buffer) : s.Spoke (s.updateBuffer k f) :=
  .setAnu (by simp) (by simp)

theorem State.modeTurn_spoke (s : State) (k : AnnounceKind) (m : AnnounceMode) : s.Spoke (s.modeTurn k m) := by
  have handed := s.handOver_spoke (announcementFrame_plain k)
  cases m with
  | off => exact .refl s
  | periodic =>
    simp only [State.modeTurn, State.periodicTurn]
    split_ifs
    · exact .refl s
    · exact handed
  | bestEffort =>
    simp only [State.modeTurn, State.bestEffortTurn]
    split_ifs
    · exact s.updateBuffer_spoke k _
    · exact handed.trans (State.updateBuffer_spoke _ k _)
    · exact s.updateBuffer_spoke k _

theorem State.refreshContent_spoke (s : State) (k : AnnounceKind) : s.Spoke (s.refreshContent k) := by
  cases k with
  | harvest => exact .setCb s _
  | _ => exact .refl s

theorem State.onceTurn_spoke (s : State) (k : AnnounceKind) : s.Spoke (s.onceTurn k) := by
  have handed := s.handOver_spoke (announcementFrame_plain k)
  have done (t : State) : t.Spoke ((t.refreshContent k).disarm k) :=
    (t.refreshContent_spoke k).trans (State.updateBuffer_spoke _ k _)
  simp only [State.onceTurn]
  split_ifs
  · exact .refl s
  · exact done s
  · exact handed.trans (done _)
  · exact handed
  · exact .refl s

theorem State.sendNotice_spoke (s : State) (n : Notice) : s.Spoke (s.sendNotice n) := by
  have handed := s.handOver_spoke n.frame_plain
  simp only [State.sendNotice]
  split_ifs
  · exact handed.trans (.setAnu rfl rfl)
  · exact handed

/-! ## The announcements of a boundary -/

/-- The buffers' turns and the notices, by the modes that stand before the first of them. -/
theorem State.announce_eq (s : State) :
    s.announce =
      if s.sl.nodeState = .silent then s
      else
        ((((s.modeTurn .presence s.par.presenceMode).modeTurn .load s.par.loadMode).onceTurn .streamWant).onceTurn
          .harvest).sendNotices := by
  have par : (s.modeTurn .presence s.par.presenceMode).par = s.par := by simp [State.par]
  rw [State.announce]
  simp only [par]

theorem State.announce_spoke (s : State) : s.Spoke s.announce := by
  rw [State.announce_eq]
  split_ifs
  · exact .refl s
  · exact (((((s.modeTurn_spoke _ _).trans (State.modeTurn_spoke _ _ _)).trans (State.onceTurn_spoke _ _)).trans
      (State.onceTurn_spoke _ _))).trans (.fold State.sendNotice_spoke _ _)

/-! ## Ageing and the listening count -/

theorem State.countListening_eq (s : State) :
    s.countListening =
      s.setSl
        (if s.sl.nodeState = .listening then
          { s.sl with
            listeningCount := s.sl.listeningCount + 1,
            nodeState := if s.sl.listeningCount + 1 = 3 then .running else .listening }
        else s.sl) := by
  rw [State.countListening]
  by_cases listens : s.sl.nodeState = .listening
  · rw [if_pos listens, if_pos listens]
    rfl
  · rw [if_neg listens, if_neg listens, State.setSl_self]

end Sys2Proof.Machine

open Sys2Proof Sys2Proof.Machine

/-- Settles O8: the boundary part by part; the announcements touch neither what is aged nor what is counted. -/
theorem boundaryAgesPeersAndSeats : Obligations.BoundaryAgesPeersAndSeats := by
  intro s dt due next reached p away aged u v
  have ages : (((s.elapse dt).setAnu { s.anu with nextBoundary := some (due + (s.elapse dt).period) }).agePeers) = u := rfl
  have announces : u.announce = v := u.announce_eq
  obtain ⟨frame, peers, boundary, queue⟩ := u.announce_spoke
  rw [announces] at frame peers boundary queue
  have now : v.now = s.now + dt := (congrArg State.now frame :)
  have sl : v.sl = s.sl := (congrArg State.sl frame :)
  have sv : v.sv = s.sv := (congrArg State.sv frame :)
  have au : v.au = s.au := (congrArg State.au frame :)
  have ru : v.ru = s.ru := (congrArg State.ru frame :)
  have rp : v.rp = s.rp := (congrArg State.rp frame :)
  have par : v.par = s.par := congrArg (fun x : StartUp => x.params.getD Params.default) sl
  have exact_ : exec (.announcementPeriodBoundary dt) s = .next v.awayCheck.countListening := by
    have dueNow : (s.elapse dt).reached due = true := State.reached_elapse reached
    simp only [exec, execAnnouncementPeriodBoundary, State.elapse_anu, next, dueNow, if_true, State.boundary, ages, announces]
  have seats : v.awayCheck.sv.seats = s.sv.seats.map away := by
    show v.sv.seats.map (SeatRecord.leaveSeat v.now (seconds v.par.awaySeconds)) = _
    rw [sv, now, par]
    apply List.map_congr_left
    intro r _
    unfold SeatRecord.leaveSeat
    rfl
  refine ⟨_, exact_, ?_, ?_, ?_, ?_, ?_, ?_, ?_, ?_, ?_, ?_, ?_, ?_⟩
  · rw [State.countListening_eq]
    rfl
  · rw [State.countListening_eq]
    exact boundary
  · rw [State.countListening_eq]
    exact peers
  · rw [State.countListening_eq]
    exact seats
  · rw [State.countListening_eq]
    exact congrArg (·.matchState) sv
  · rw [State.countListening_eq]
    exact congrArg (·.authority) sv
  · rw [State.countListening_eq]
    exact congrArg (·.pendingTokens) sv
  · rw [State.countListening_eq]
    exact au
  · rw [State.countListening_eq]
    exact ru
  · rw [State.countListening_eq]
    exact rp
  · rw [State.countListening_eq]
    exact queue
  · rw [State.countListening_eq]
    rw [State.setSl_sl, show v.awayCheck.sl = s.sl from sl]

end

section
/-! SUPPORT. Samples and signal updates (R6, R22 to R24, R27, R32, R39, R79). -/

namespace Sys2Proof.Machine

/-! ## Changes of keyed lists -/

theorem map_of_fixed {α : Type} {f : α → α} {l : List α} (fixed : ∀ x ∈ l, f x = x) : l.map f = l :=
  (List.map_congr_left fixed).trans (List.map_id l)

/-- Changing the one new item after its insertion is inserting it changed. -/
theorem map_putBy_new {α : Type} {key : α → Nat} {f : α → α} {p : α → Bool} {x : α} {l : List α} (sameKey : key (f x) = key x)
    (new : p x = true) (absent : ∀ y ∈ l, p y = false) :
    (putBy key x l).map (fun y => if p y then f y else y) = putBy key (f x) l := by
  induction l with
  | nil => simp [putBy, new]
  | cons y ys ih =>
    have other := absent y List.mem_cons_self
    have rest : ys.map (fun y => if p y then f y else y) = ys :=
      map_of_fixed fun z hz => by rw [absent z (List.mem_cons_of_mem y hz)]; rfl
    have ih := ih fun z hz => absent z (List.mem_cons_of_mem y hz)
    simp only [putBy, sameKey]
    split_ifs
    · simp only [List.map_cons, new, if_true, other, Bool.false_eq_true, if_false, rest]
    · simp only [List.map_cons, new, if_true, rest]
    · simp only [List.map_cons, other, Bool.false_eq_true, if_false, ih]

/-- Taking the new item out again leaves the list as it was. -/
theorem filter_putBy_new {α : Type} {key : α → Nat} {p : α → Bool} {x : α} {l : List α} (new : p x = false)
    (kept : ∀ y ∈ l, p y = true) (keys : ∀ y ∈ l, key y ≠ key x) : (putBy key x l).filter p = l := by
  induction l with
  | nil => simp [putBy, new]
  | cons y ys ih =>
    have hy := kept y List.mem_cons_self
    have rest : ys.filter p = ys := List.filter_eq_self.mpr fun z hz => kept z (List.mem_cons_of_mem y hz)
    have ih := ih (fun z hz => kept z (List.mem_cons_of_mem y hz)) fun z hz => keys z (List.mem_cons_of_mem y hz)
    have ne := keys y List.mem_cons_self
    simp only [putBy, if_neg ne.symm]
    split_ifs <;> simp [new, hy, rest, ih]

theorem filter_ne_map_update {α κ : Type} [BEq κ] [LawfulBEq κ] {key : α → κ} {f : α → α} (hf : ∀ x, key (f x) = key x) (k : κ)
    (l : List α) :
    (l.map (fun x => if key x == k then f x else x)).filter (fun x => key x != k) = l.filter (fun x => key x != k) := by
  induction l with
  | nil => rfl
  | cons x xs ih =>
    rw [List.map_cons]
    by_cases here : key x = k
    · have gone : key (f x) = k := (hf x).trans here
      simp [here, gone, ih]
    · simp [here, ih]

/-! ## Presence (R78) -/

theorem State.present_iff (s : State) (c : ClientId) :
    s.present c = true ↔ ∃ signal, s.signalOf c = some signal ∧ 4 * s.par.presenceThreshold ≤ signal := by
  simp only [State.present, Option.any_eq_true, decide_eq_true_iff]

theorem State.signalOf_of_entry {s : State} {c : ClientId} {e : ClientEntry} (found : s.findEntry c = some e) :
    s.signalOf c = some e.signal := by
  rw [State.signalOf, found]

theorem State.signalOf_of_sighting {s : State} {c : ClientId} (absent : s.findEntry c = none) :
    s.signalOf c = (s.findSighting c).map (·.signal) := by
  rw [State.signalOf, absent]

/-- The test of presence changes the seats alone. -/
theorem State.testPresence_eq (s : State) (c : ClientId) :
    s.testPresence c =
      s.setSv
        (if s.present c then
          { s.sv with seats := s.sv.seats.map (fun r => if r.state.homeFor c then r.occupy s.now else r) }
        else s.sv) := by
  rw [State.testPresence]
  split_ifs <;> rfl

@[simp] theorem State.testPresence_findEntry (s : State) (c d : ClientId) : (s.testPresence c).findEntry d = s.findEntry d := by
  rw [State.testPresence_eq]
  rfl

@[simp] theorem State.testPresence_findSighting (s : State) (c d : ClientId) :
    (s.testPresence c).findSighting d = s.findSighting d := by
  rw [State.testPresence_eq]
  rfl

@[simp] theorem State.testPresence_hasEntry (s : State) (c d : ClientId) : (s.testPresence c).hasEntry d = s.hasEntry d := by
  rw [State.hasEntry, State.testPresence_findEntry, State.hasEntry]

/-! ## The stray test (R7) -/

theorem State.strayTest_of_entry {s : State} {r : UplinkRecord} {e : ClientEntry} (found : s.findEntry r.client = some e) :
    s.strayTest r = s := by
  have held : s.hasEntry r.client = true := (State.hasEntry_iff _ _).mpr ⟨e, found⟩
  simp [State.strayTest, held]

theorem State.strayTest_of_absent {s : State} {r : UplinkRecord} (absent : s.findEntry r.client = none) :
    s.strayTest r = if s.sl.ownAddress = some r.cell then s.handReply (.dropClient r.client) else s := by
  have noEntry : s.hasEntry r.client = false := by simp [State.hasEntry, absent]
  simp [State.strayTest, noEntry, State.isOwn]

theorem State.findEntry_rescore_other (s : State) {c d : ClientId} (other : d ≠ c) : (s.rescore c).findEntry d = s.findEntry d :=
  State.findEntry_updateEntry_other s (f := fun e => { e with score := s.scoreOf e }) (fun _ => rfl) other

/-! ## Samples (R6) -/

@[simp] theorem ClientEntry.sampleWith_id (rssi : Int) (now : Time) (e : ClientEntry) : (e.sampleWith rssi now).id = e.id := rfl

theorem State.sample_of_entry {s : State} {c : ClientId} {e : ClientEntry} (found : s.findEntry c = some e) (rssi : Int)
    (cell : Station) :
    s.sample c rssi cell = ((s.updateEntry c (ClientEntry.sampleWith rssi s.now)).rescore c).testPresence c := by
  have held : s.hasEntry c = true := (State.hasEntry_iff _ _).mpr ⟨e, found⟩
  have heldAfter : (s.updateEntry c (ClientEntry.sampleWith rssi s.now)).hasEntry c = true := by
    rw [State.hasEntry, State.findEntry_updateEntry_self _ _ (ClientEntry.sampleWith_id rssi s.now), found]
    rfl
  rw [State.sample, if_pos held, State.signalUpdate, if_pos heldAfter]

theorem State.signalUpdate_of_absent {s : State} {c : ClientId} (absent : s.findEntry c = none) :
    s.signalUpdate c = (s.claimCheck c).testPresence c := by
  have noEntry : s.hasEntry c = false := by simp [State.hasEntry, absent]
  rw [State.signalUpdate, if_neg (by rw [noEntry]; decide)]

theorem State.sample_of_sighting {s : State} {c : ClientId} {g : Sighting} (absent : s.findEntry c = none)
    (found : s.findSighting c = some g) (rssi : Int) (cell : Station) :
    s.sample c rssi cell =
      ((s.updateSighting c (Sighting.sampleWith rssi cell s.now s.sightingRemoval)).claimCheck c).testPresence c := by
  have noEntry : s.hasEntry c = false := by simp [State.hasEntry, absent]
  rw [State.sample, if_neg (by rw [noEntry]; decide), if_pos (by rw [found]; rfl), State.signalUpdate_of_absent]
  exact absent

/-- The sighting that a first sample records. -/
def UplinkRecord.sighting (r : UplinkRecord) (now : Time) : Sighting :=
  { id := r.client, signal := firstSample r.rssi, lastHeard := now, cell := r.cell, status := .seen,
    removal := now + seconds 10 }

theorem State.sample_of_unseen {s : State} {r : UplinkRecord} (absent : s.findEntry r.client = none)
    (unseen : s.findSighting r.client = none) :
    s.sampleOf r = ((s.insertSighting (r.sighting s.now)).claimCheck r.client).testPresence r.client := by
  have noEntry : s.hasEntry r.client = false := by simp [State.hasEntry, absent]
  have stillAbsent : (s.insertSighting (r.sighting s.now)).findEntry r.client = none := by
    rw [State.findEntry, State.insertSighting_clients]
    exact absent
  rw [State.sampleOf, State.sample, if_neg (by rw [noEntry]; decide), if_neg (by rw [unseen]; decide)]
  exact State.signalUpdate_of_absent stillAbsent

end Sys2Proof.Machine

open Sys2Proof Sys2Proof.Machine

/-- Settles O11: the sample of an entry, its new score, and the test of presence; the stray test finds the entry. -/
theorem heardUpdatesItsEntry : Obligations.HeardUpdatesItsEntry := by
  intro s dt r e started oldest body found reading signal u
  have sampled : u.sampleOf r = ((u.updateEntry r.client (ClientEntry.sampleWith r.rssi u.now)).rescore r.client).testPresence
      r.client := State.sample_of_entry (s := u) found r.rssi r.cell
  have entry (d : ClientId) : (u.sampleOf r).findEntry d =
      ((u.updateEntry r.client (ClientEntry.sampleWith r.rssi u.now)).rescore r.client).findEntry d := by
    rw [sampled, State.testPresence_findEntry]
  have signal_eq : (e.sampleWith r.rssi u.now).signal = signal := rfl
  have updated : (u.updateEntry r.client (ClientEntry.sampleWith r.rssi u.now)).findEntry r.client =
      some (e.sampleWith r.rssi u.now) := by
    rw [State.findEntry_updateEntry_self _ _ (ClientEntry.sampleWith_id r.rssi u.now)]
    exact congrArg (Option.map _) found
  have rescored : ((u.updateEntry r.client (ClientEntry.sampleWith r.rssi u.now)).rescore r.client).findEntry r.client =
      some { e.sampleWith r.rssi u.now with
        score := (u.updateEntry r.client (ClientEntry.sampleWith r.rssi u.now)).scoreOf (e.sampleWith r.rssi u.now) } := by
    rw [State.findEntry_rescore, updated, Option.map_some]
  have stays : (u.sampleOf r).strayTest r = u.sampleOf r := State.strayTest_of_entry ((entry r.client).trans rescored)
  have present : ((u.updateEntry r.client (ClientEntry.sampleWith r.rssi u.now)).rescore r.client).present r.client = true ↔
      4 * s.par.presenceThreshold ≤ signal := by
    rw [State.present_iff, State.signalOf_of_entry rescored]
    exact ⟨fun ⟨_, same, above⟩ => by cases same; exact above, fun above => ⟨_, rfl, above⟩⟩
  refine ⟨u.sampleOf r, ?_, ?_, ?_, fun d other => ?_, ?_, ?_⟩
  · rw [exec_heard oldest dt body, State.onRecord_of_started started, stays]
  · rw [sampled, State.testPresence_eq]
    rfl
  · rw [entry, rescored]
    have id : e.id = r.client := State.findEntry_id found
    have entries : (u.updateEntry r.client (ClientEntry.sampleWith r.rssi u.now)).au.clients.length = s.au.clients.length :=
      List.length_map _
    show some _ = some _
    rw [State.scoreOf, entries, show (e.sampleWith r.rssi u.now).id = r.client from id]
    rfl
  · rw [entry, State.findEntry_rescore_other _ other,
      State.findEntry_updateEntry_other _ (ClientEntry.sampleWith_id r.rssi u.now) other]
    rfl
  · rw [sampled, State.testPresence_eq]
    rfl
  · rw [sampled, State.testPresence_eq, State.setSv_sv]
    simp only [present]
    rfl

end

section
/-! SUPPORT. A HEARD without an entry: where its sighting goes, and what the claim check then does (R3, R4, R7, R39, R40). -/

namespace Sys2Proof.Machine

/-! ## The claim check (R39) -/

/-- A LIVE NODE peer stands at a station (R39, R145). -/
def State.claimable (s : State) (a : Station) : Prop :=
  ∃ p ∈ s.anu.peers, p.station = a ∧ p.cls = .node ∧ p.status = .live

theorem State.liveNodePeer_iff (s : State) (a : Station) : s.liveNodePeer a = true ↔ s.claimable a := by
  simp only [State.liveNodePeer, List.any_eq_true, Bool.and_eq_true, beq_iff_eq, PeerEntry.liveNode, State.claimable]

theorem State.claims_iff (s : State) (g : Sighting) :
    s.claims g = true ↔
      s.sl.nodeState = .running ∧ g.status = .seen ∧ s.claimable g.cell ∧ s.au.clients.countP ClientEntry.isReserved < 4 ∧
        s.au.clients.length < s.par.limit ∧ s.par.claimFloor ≤ s.scoreOfSighting g := by
  simp only [State.claims, Bool.and_eq_true, State.isRunning_iff, beq_iff_eq, State.liveNodePeer_iff, decide_eq_true_iff,
    List.countP_eq_length_filter, and_assoc]
  exact Iff.rfl

/-! ## A new entry (R2, R32) -/

/-- An entry as it is stored: with the score of the table it joins. -/
def State.scored (s : State) (e : ClientEntry) : ClientEntry :=
  { e with score := servingScore e.signal s.ru.occupancy (s.au.clients.length + 1) (s.home e.id) }

theorem State.createEntry_eq {s : State} {e : ClientEntry} (absent : s.findEntry e.id = none) :
    s.createEntry e =
      s.setAu
        { clients := putBy (fun x => x.id.toNat) (s.scored e) s.au.clients,
          sightings := s.au.sightings.filter (fun g => g.id != e.id) } := by
  have others := State.absent_of_findEntry absent
  let t := (s.eraseSighting e.id).setAu
    { (s.eraseSighting e.id).au with clients := putBy (fun x => x.id.toNat) e s.au.clients }
  have entries : t.au.clients.length = s.au.clients.length + 1 :=
    putBy_length_new fun x hx same => others x hx (BitVec.eq_of_toNat_eq same)
  have score : t.scoreOf e = (s.scored e).score := by
    show servingScore _ _ t.au.clients.length _ = _
    rw [entries]
    rfl
  have changed : t.au.clients.map (fun x => if x.id == e.id then { x with score := t.scoreOf x } else x) =
      putBy (fun x => x.id.toNat) { e with score := t.scoreOf e } s.au.clients :=
    map_putBy_new (key := fun x : ClientEntry => x.id.toNat) (f := fun x => { x with score := t.scoreOf x })
      (p := fun x => x.id == e.id) rfl (beq_self_eq_true _) fun x hx => beq_false_of_ne (others x hx)
  show t.setAu { t.au with clients := t.au.clients.map (fun x => if x.id == e.id then { x with score := t.scoreOf x } else x) } = _
  rw [changed, score]
  rfl

theorem claimTime_eq : claimTime = 3000000 := by decide

/-- The RESERVED entry that a claim stores (R40). -/
def State.reservation (s : State) (g : Sighting) : ClientEntry :=
  s.scored (ClientEntry.fresh g.id (.reserved g.cell (s.now + 3000000)) g.signal true g.lastHeard)

/-- A claim on a sighting: its entry takes its place and the claim goes out (R40). -/
def State.claimed (s : State) (g : Sighting) : State :=
  (s.setAu
    { clients := putBy (fun x => x.id.toNat) (s.reservation g) s.au.clients,
      sightings := s.au.sightings.filter (fun x => x.id != g.id) }).send g.cell (.roamClaim g.id (s.scoreOfSighting g))

/-- The table and the list after a claim, by what is left of the list. -/
theorem State.claimed_eq {s : State} {g : Sighting} {others : List Sighting}
    (rest : s.au.sightings.filter (fun x => x.id != g.id) = others) :
    s.claimed g =
      (s.setAu { clients := putBy (fun x => x.id.toNat) (s.reservation g) s.au.clients, sightings := others }).send g.cell
        (.roamClaim g.id (s.scoreOfSighting g)) := by
  rw [State.claimed, rest]

theorem State.claimCheck_of_claims {s : State} {c : ClientId} {g : Sighting} (absent : s.findEntry c = none)
    (found : s.findSighting c = some g) (claims : s.claims g = true) : s.claimCheck c = s.claimed g := by
  have id := State.findSighting_id found
  have entry := State.createEntry_eq (s := s)
    (e := ClientEntry.fresh g.id (.reserved g.cell (s.now + claimTime)) g.signal true g.lastHeard) (by
      show s.findEntry g.id = none
      rwa [id])
  simp only [State.claimCheck, found, claims, if_true, State.claim, entry]
  rw [claimTime_eq]
  rfl

theorem State.claimCheck_of_fails {s : State} {c : ClientId} {g : Sighting} (found : s.findSighting c = some g)
    (fails : ¬ s.claims g = true) : s.claimCheck c = s := by
  simp only [State.claimCheck, found, if_neg fails]

theorem State.claimCheck_of_unrecorded {s : State} {c : ClientId} (unseen : s.findSighting c = none) : s.claimCheck c = s := by
  simp only [State.claimCheck, unseen]

/-! ## The whole of a HEARD -/

section
variable {u w : State} {r : UplinkRecord} (sampled : u.sampleOf r = (w.claimCheck r.client).testPresence r.client)
  (absent : w.findEntry r.client = none)
include sampled absent

/-- Without a claim the stray test finds no entry. -/
theorem State.heard_of_unclaimed (unclaimed : w.claimCheck r.client = w) :
    (u.sampleOf r).strayTest r =
      if w.sl.ownAddress = some r.cell then (w.testPresence r.client).handReply (.dropClient r.client)
      else w.testPresence r.client := by
  rw [sampled, unclaimed, State.strayTest_of_absent ((w.testPresence_findEntry _ _).trans absent)]
  simp

/-- A claim goes to another station than the own address. -/
theorem State.heard_of_claimed {g : Sighting} (found : w.findSighting r.client = some g) (claims : w.claims g = true)
    (foreign : w.sl.ownAddress ≠ some r.cell) :
    (u.sampleOf r).strayTest r = (w.claimed g).testPresence r.client := by
  have own : ((w.claimed g).testPresence r.client).isOwn r.cell = false := by
    simpa [State.isOwn, State.claimed] using foreign
  rw [sampled, State.claimCheck_of_claims absent found claims]
  simp [State.strayTest, own]

end

/-! ## Insertion into the sighting list (R4) -/

theorem Sighting.replacementRank_le_iff (g h : Sighting) :
    g.replacementRank ≤ h.replacementRank ↔
      g.lastHeard < h.lastHeard ∨ (g.lastHeard = h.lastHeard ∧ g.id.toNat ≤ h.id.toNat) := by
  have hg := g.id.isLt
  have hh := h.id.isLt
  generalize hx : g.id.toNat = x at hg
  generalize hy : h.id.toNat = y at hh
  have rank (a b m n : Nat) (hm : m < 2 ^ 48) (hn : n < 2 ^ 48) :
      a * 2 ^ 48 + m ≤ b * 2 ^ 48 + n ↔ a < b ∨ (a = b ∧ m ≤ n) := by omega
  unfold Sighting.replacementRank
  rw [hx, hy]
  exact rank g.lastHeard h.lastHeard x y hg hh

/-- What R4 leaves of the list for a new sighting to enter. -/
def State.makesPlace (s : State) (others : List Sighting) : Prop :=
  s.au.sightings.length < 32 ∧ others = s.au.sightings ∨
    32 ≤ s.au.sightings.length ∧
      ∃ old ∈ s.au.sightings, old.status = .seen ∧
        (∀ x ∈ s.au.sightings, x.status = .seen →
          old.lastHeard < x.lastHeard ∨ (old.lastHeard = x.lastHeard ∧ old.id.toNat ≤ x.id.toNat)) ∧
        others = s.au.sightings.filter (fun x => x.id != old.id)

theorem State.insertSighting_of_place {s : State} {others : List Sighting} (place : s.makesPlace others) (g : Sighting) :
    s.insertSighting g = s.setAu { s.au with sightings := putBy (fun x => x.id.toNat) g others } := by
  obtain ⟨room, rfl⟩ | ⟨full, old, held, seen, oldest, rfl⟩ := place
  · exact if_pos room
  · have candidates : old ∈ s.au.sightings.filter (fun x => x.status == .seen) :=
      List.mem_filter.mpr ⟨held, beq_iff_eq.mpr seen⟩
    cases chosen : minBy Sighting.replacementRank (s.au.sightings.filter (fun x => x.status == .seen)) with
    | none =>
      rw [minBy_eq_none.mp chosen] at candidates
      exact absurd candidates List.not_mem_nil
    | some first =>
      obtain ⟨held', least⟩ := minBy_spec chosen
      obtain ⟨inList, seen'⟩ := List.mem_filter.mp held'
      have below := (Sighting.replacementRank_le_iff _ _).mp (least old candidates)
      have above := oldest first inList (beq_iff_eq.mp seen')
      have same : first.id = old.id := BitVec.eq_of_toNat_eq (by
        rw [Nat.le_antisymm_iff]
        obtain lt | ⟨eq, le⟩ := below
        · obtain gt | ⟨eq, -⟩ := above
          · exact absurd gt (Nat.not_lt.mpr (Nat.le_of_lt lt))
          · exact absurd eq.symm (Nat.ne_of_lt lt)
        · obtain gt | ⟨-, ge⟩ := above
          · exact absurd gt (by rw [eq]; exact lt_irrefl _)
          · exact ⟨le, ge⟩)
      have noRoom : ¬ s.au.sightings.length < sightingPlaces := Nat.not_lt.mpr full
      simp only [State.insertSighting, if_neg noRoom, chosen, same]

theorem State.insertSighting_of_no_place {s : State} (full : 32 ≤ s.au.sightings.length)
    (backedOff : ∀ x ∈ s.au.sightings, x.status ≠ .seen) (g : Sighting) : s.insertSighting g = s := by
  have none : minBy Sighting.replacementRank (s.au.sightings.filter (fun x => x.status == .seen)) = none :=
    minBy_eq_none.mpr (List.filter_eq_nil_iff.mpr fun x hx seen => backedOff x hx (beq_iff_eq.mp seen))
  have noRoom : ¬ s.au.sightings.length < sightingPlaces := Nat.not_lt.mpr full
  simp only [State.insertSighting, if_neg noRoom, none]

theorem State.makesPlace_absent {s : State} {others : List Sighting} {c : ClientId} (place : s.makesPlace others)
    (unseen : s.findSighting c = none) : ∀ x ∈ others, x.id ≠ c := by
  have absent : ∀ x ∈ s.au.sightings, x.id ≠ c := by simpa [State.findSighting] using unseen
  obtain ⟨-, rfl⟩ | ⟨-, old, -, -, -, rfl⟩ := place
  · exact absent
  · exact fun x hx => absent x (List.mem_of_mem_filter hx)

@[simp] theorem Sighting.sampleWith_id (rssi : Int) (cell : Station) (now removal : Time) (g : Sighting) :
    (g.sampleWith rssi cell now removal).id = g.id := rfl

/-- A client held as a sighting has it updated; the claim check follows. -/
theorem State.sampleOf_of_sighting {u : State} {r : UplinkRecord} {g : Sighting} (absent : u.findEntry r.client = none)
    (found : u.findSighting r.client = some g) :
    let w := u.updateSighting r.client (Sighting.sampleWith r.rssi r.cell u.now u.sightingRemoval)
    u.sampleOf r = (w.claimCheck r.client).testPresence r.client ∧
      w.findSighting r.client = some (g.sampleWith r.rssi r.cell u.now u.sightingRemoval) := by
  refine ⟨State.sample_of_sighting absent found r.rssi r.cell, ?_⟩
  rw [State.findSighting_updateSighting_self _ _ (Sighting.sampleWith_id _ _ _ _), found, Option.map_some]

/-- A client in neither collection is recorded where R4 makes a place; the claim check follows. -/
theorem State.sampleOf_of_unseen {u : State} {r : UplinkRecord} {others : List Sighting} (absent : u.findEntry r.client = none)
    (unseen : u.findSighting r.client = none) (place : u.makesPlace others) :
    let w := u.setAu { u.au with sightings := putBy (fun x => x.id.toNat) (r.sighting u.now) others }
    u.sampleOf r = (w.claimCheck r.client).testPresence r.client ∧
      w.findSighting r.client = some (r.sighting u.now) ∧
      w.au.sightings.filter (fun x => x.id != r.client) = others := by
  have free := State.makesPlace_absent place unseen
  refine ⟨?_, ?_, ?_⟩
  · rw [State.sample_of_unseen absent unseen, State.insertSighting_of_place place]
  · exact find_putBy_new (beq_self_eq_true _) fun x hx => beq_false_of_ne (free x hx)
  · exact filter_putBy_new (bne_self_eq_false _) (fun x hx => bne_iff_ne.mpr (free x hx)) fun x hx same =>
      free x hx (BitVec.eq_of_toNat_eq same)

end Sys2Proof.Machine

open Sys2Proof Sys2Proof.Machine

/-- Settles O12: the sighting is updated or recorded, and then the claim check's outcome decides between claim and stray test. -/
theorem heardWithoutAnEntry : Obligations.HeardWithoutAnEntry := by
  intro s dt r started oldest body absent c reading u claimable scored fails stray claims
  have next : exec (.heard dt) s = .next ((u.sampleOf r).strayTest r) := by
    rw [exec_heard oldest dt body, State.onRecord_of_started started]
  have not_claims {w : State} {g : Sighting} (sl : w.sl = s.sl) (clients : w.au.clients = s.au.clients) (anu : w.anu = s.anu)
      (score : w.scoreOfSighting g = scored g.signal) (cell : g.cell = r.cell) :
      ¬ w.claims g = true ↔ fails g.status g.signal := by
    have par : w.par = s.par := congrArg (fun x : StartUp => x.params.getD Params.default) sl
    have near : w.claimable g.cell ↔ claimable := by
      rw [State.claimable, anu, cell]
    rw [State.claims_iff, sl, near, clients, par, score]
    simp only [not_and_or, Nat.not_lt, Nat.not_le]
    exact Iff.rfl
  have updated (g : Sighting) (found : s.findSighting c = some g) :=
    State.sampleOf_of_sighting (u := u) (r := r) (g := g) absent found
  have score_eq (g : Sighting) (found : s.findSighting c = some g) :
      servingScore (smooth g.signal r.rssi) s.ru.occupancy (s.au.clients.length + 1) (s.home g.id) =
        scored (g.signal + (reading - g.signal) / 4) := by
    rw [State.findSighting_id found]
    rfl
  have foundFails (g : Sighting) (found : s.findSighting c = some g)
      (failed : fails g.status (g.signal + (reading - g.signal) / 4)) :
      exec (.heard dt) s =
        .next
          (stray
            ((u.updateSighting c (fun g =>
              { g with
                signal := g.signal + (reading - g.signal) / 4, lastHeard := s.now + dt, cell := r.cell,
                removal := s.now + dt + 100000000 })).testPresence c)) := by
    obtain ⟨sampled, held⟩ := updated g found
    have unclaimed := State.claimCheck_of_fails held
      ((not_claims (w := u.updateSighting c (Sighting.sampleWith r.rssi r.cell u.now u.sightingRemoval))
        (g := g.sampleWith r.rssi r.cell u.now u.sightingRemoval) rfl rfl rfl (score_eq g found) rfl).mpr failed)
    rw [next, State.heard_of_unclaimed sampled absent unclaimed]
    rfl
  have recordedFails (others : List Sighting) (unseen : s.findSighting c = none) (place : s.makesPlace others)
      (failed : fails .seen reading) :
      exec (.heard dt) s =
        .next (stray ((u.setAu
          { s.au with sightings := putBy (fun x => x.id.toNat) (r.sighting (s.now + dt)) others }).testPresence c)) := by
    obtain ⟨sampled, held, -⟩ := State.sampleOf_of_unseen (u := u) (r := r) absent unseen place
    have unclaimed := State.claimCheck_of_fails held ((not_claims rfl rfl rfl rfl rfl).mpr failed)
    rw [next, State.heard_of_unclaimed sampled absent unclaimed]
    rfl
  refine ⟨?strayRecorded, ?held, foundFails, ?unheld⟩
  case strayRecorded =>
    intro unseen own room alone g
    rw [recordedFails s.au.sightings unseen (.inl ⟨room, rfl⟩) (.inr (.inr (.inl alone)))]
    exact congrArg Host.Outcome.next (if_pos own)
  case held =>
    intro g found foreign signal score
    refine ⟨fun alone => ?_, ?_⟩
    · rw [foundFails g found (.inr (.inr (.inl alone)))]
      exact congrArg Host.Outcome.next (if_neg foreign)
    · intro near running seen few room floor e
      have id := State.findSighting_id found
      obtain ⟨sampled, held⟩ := updated g found
      have gone : (u.updateSighting r.client
            (Sighting.sampleWith r.rssi r.cell u.now u.sightingRemoval)).au.sightings.filter
              (fun x => x.id != (g.sampleWith r.rssi r.cell u.now u.sightingRemoval).id) =
          s.au.sightings.filter (fun x => x.id != g.id) := by
        rw [Sighting.sampleWith_id, id]
        exact filter_ne_map_update (key := fun x : Sighting => x.id)
          (Sighting.sampleWith_id r.rssi r.cell u.now u.sightingRemoval) c s.au.sightings
      have claimed := (State.claims_iff (u.updateSighting r.client (Sighting.sampleWith r.rssi r.cell u.now u.sightingRemoval))
        (g.sampleWith r.rssi r.cell u.now u.sightingRemoval)).mpr
        ⟨running, seen, near, few, room, floor.trans_eq (score_eq g found).symm⟩
      have stored : u.reservation (g.sampleWith r.rssi r.cell u.now u.sightingRemoval) = e := by
        show (⟨g.id, _, _, _, _, servingScore (smooth g.signal r.rssi) s.ru.occupancy (s.au.clients.length + 1) (s.home g.id),
          _, _, _, _, _, _, _⟩ : ClientEntry) = _
        rw [score_eq g found, id]
        rfl
      rw [next, State.heard_of_claimed sampled absent held claimed foreign, State.claimed_eq gone]
      show Host.Outcome.next (((u.setAu
        { clients := putBy _ (u.reservation (g.sampleWith r.rssi r.cell u.now u.sightingRemoval)) s.au.clients,
          sightings := s.au.sightings.filter (fun x => x.id != g.id) }).send r.cell
            (.roamClaim g.id (servingScore (smooth g.signal r.rssi) s.ru.occupancy (s.au.clients.length + 1)
              (s.home g.id)))).testPresence c) = _
      rw [stored, score_eq g found, id]
  case unheld =>
    intro unseen g
    refine ⟨fun others place => ⟨fun failed => recordedFails others unseen place failed, fun passes foreign => ?_⟩,
      fun full backedOff => ?_⟩
    · obtain ⟨sampled, held, rest⟩ := State.sampleOf_of_unseen (u := u) (r := r) absent unseen place
      have claimed := not_not.mp (mt (not_claims (g := g) rfl rfl rfl rfl rfl).mp passes)
      rw [next, State.heard_of_claimed sampled absent held claimed foreign, State.claimed_eq rest]
      rfl
    · have sampled : u.sampleOf r = (u.claimCheck r.client).testPresence r.client := by
        rw [State.sample_of_unseen (s := u) absent unseen, State.insertSighting_of_no_place (s := u) full backedOff]
      have unknown : u.present r.client = false := by
        have silent : u.signalOf r.client = none := by
          rw [State.signalOf_of_sighting (s := u) absent]
          exact congrArg (Option.map _) unseen
        rw [State.present, silent]
        rfl
      have untested : u.testPresence r.client = u := by
        rw [State.testPresence_eq, unknown]
        rfl
      rw [next, State.heard_of_unclaimed sampled absent (State.claimCheck_of_unrecorded unseen), untested]
      rfl

end

section
/-! SUPPORT. Joins (R8 to R10, R51, R55, R57): the entry that an accepted join creates, the redirect of a full table, and the three
states in which a held client's join finds its entry. -/

namespace Sys2Proof.Machine

/-! ## What a sample keeps -/

@[simp] theorem State.sample_par (s : State) (c : ClientId) (rssi : Int) (cell : Station) : (s.sample c rssi cell).par = s.par := by
  simp [State.par]

@[simp] theorem State.count_findEntry (s : State) (k : CounterId) (c : ClientId) : (s.count k).findEntry c = s.findEntry c := by
  simp [State.findEntry]

@[simp] theorem State.handReply_findEntry (s : State) (r : Downlink) (c : ClientId) :
    (s.handReply r).findEntry c = s.findEntry c := by
  simp [State.findEntry]

/-! ## A message changes no peer, notice or boundary -/

theorem State.handReply_lists (s : State) (r : Downlink) : s.anu.SameLists (s.handReply r).anu := by
  unfold State.handReply
  split
  · simp [Announcement.SameLists]
  · split
    · exact .refl _
    · exact s.count_lists _

theorem State.reportRefusal_lists (s : State) (f : TxFrame) : s.anu.SameLists (s.reportRefusal f).anu := by
  unfold State.reportRefusal State.forwardLost
  repeat' split
  · rw [State.settleTryAgain_eq]
    simpa using s.handReply_lists _
  all_goals exact .refl _

theorem State.handOver_lists (s : State) (f : TxFrame) : s.anu.SameLists (s.handOver f).1.anu := by
  obtain ⟨-, h⟩ | ⟨-, h⟩ | ⟨front, old, -, -, -, h⟩ | ⟨-, -, h⟩ := s.handOver_cases f <;> rw [h]
  · exact .refl _
  · exact s.acceptFrame_lists f
  · let u := (s.setRbc { s.rbc with txNormal := s.rbc.txNormal.dropLast }).count .txLost
    have counted : s.anu.SameLists u.anu := State.count_lists _ _
    have reported : u.anu.SameLists (u.reportLoss old).anu := by
      rw [State.reportLoss_eq]
      exact (u.clearLost_lists old).trans (State.reportRefusal_lists _ _)
    exact (counted.trans reported).trans (State.acceptFrame_lists _ _)
  · exact (s.count_lists _).trans (State.reportRefusal_lists _ _)

/-- What table changes, messages and tests of presence keep, a sample keeps. -/
theorem State.sample_induct {P : State → Prop} (table : ∀ u a, P u → P (u.setAu a)) (send : ∀ u d m, P u → P (State.send u d m))
    (presence : ∀ u c, P u → P (State.testPresence u c)) {s : State} (holds : P s) (c : ClientId) (rssi : Int) (cell : Station) :
    P (s.sample c rssi cell) := by
  have check (u : State) (h : P u) : P (u.claimCheck c) := by
    unfold State.claimCheck State.claim
    repeat' split
    · exact send _ _ _ (table u _ h)
    all_goals exact h
  have update (u : State) (h : P u) : P (u.signalUpdate c) := by
    unfold State.signalUpdate
    split
    · exact presence _ _ (table u _ h)
    · exact presence _ _ (check u h)
  unfold State.sample
  repeat' split
  · exact update _ (table s _ holds)
  · exact update _ (table s _ holds)
  · rw [State.insertSighting_eq]
    exact update _ (table s _ holds)

theorem State.sample_lists (s : State) (c : ClientId) (rssi : Int) (cell : Station) :
    s.anu.SameLists (s.sample c rssi cell).anu :=
  State.sample_induct (P := fun u => s.anu.SameLists u.anu) (fun _ _ h => h) (fun u _ _ h => h.trans (u.handOver_lists _))
    (fun u c h => by simpa using h) (.refl _) c rssi cell

/-! ## An accepted join (R10, R57) -/

theorem contextWaitTime_eq : contextWaitTime = 10000000 := by decide

theorem holdDownTime_eq : holdDownTime = 300000000 := by decide

/-- A score that is the one the terms give is not changed by its recomputation. -/
theorem State.rescore_of_current {s : State} {c : ClientId} (current : ∀ e ∈ s.au.clients, e.id = c → s.scoreOf e = e.score) :
    s.rescore c = s := by
  have fixed : s.au.clients.map (fun e => if e.id == c then { e with score := s.scoreOf e } else e) = s.au.clients := by
    refine map_of_fixed fun e held => ?_
    split
    next same => rw [current e held (beq_iff_eq.mp same)]
    next => rfl
  rw [State.rescore, State.updateEntry, fixed]
  rfl

/-- The entry stored by a join or a claim has the score that its own terms give. -/
theorem State.scoreOf_scored {s t : State} {e : ClientEntry} (ru : t.ru = s.ru) (seats : t.sv.seats = s.sv.seats)
    (entries : t.au.clients.length = s.au.clients.length + 1) : t.scoreOf (s.scored e) = (s.scored e).score := by
  rw [State.scoreOf, entries, State.home, ru, seats]
  rfl

/-- The entry of a client whose join is accepted: with its sighting's signal, or with its first sample (R10). -/
def State.joinEntry (s : State) (r : UplinkRecord) : ClientEntry :=
  match s.findSighting r.client with
  | some g => ClientEntry.fresh r.client .associated g.signal true g.lastHeard
  | none => ClientEntry.fresh r.client .associated (firstSample r.rssi) true s.now

theorem State.joinEntry_id (s : State) (r : UplinkRecord) : (s.joinEntry r).id = r.client := by
  unfold State.joinEntry
  split <;> rfl

/-- The state after an accepted join, before the move notice: entry, reply, count and presence (R10). -/
def State.joined (s : State) (r : UplinkRecord) : State :=
  (((s.setAu
    { clients := putBy (fun x => x.id.toNat) (s.scored (s.joinEntry r)) s.au.clients,
      sightings := s.au.sightings.filter (fun x => x.id != r.client) }).handReply (.joinReply r.client .accepted none)).count
        .joinsAccepted).testPresence r.client

theorem State.admitClient_eq {s : State} {r : UplinkRecord} (absent : s.findEntry r.client = none) :
    s.admitClient r = (s.joined r).followMove r.client r.cell := by
  have id := s.joinEntry_id r
  have missing := State.absent_of_findEntry absent
  have created := State.createEntry_eq (s := s) (e := s.joinEntry r) (by rw [id]; exact absent)
  rw [id] at created
  let x := (s.createEntry (s.joinEntry r)).replyJoin r.client .accepted none
  have clients : x.au.clients = putBy (fun e => e.id.toNat) (s.scored (s.joinEntry r)) s.au.clients := by
    simp [x, created, State.replyJoin]
  have keysApart : ∀ e ∈ s.au.clients, e.id.toNat ≠ (s.scored (s.joinEntry r)).id.toNat := fun e held same =>
    missing e held ((BitVec.eq_of_toNat_eq same).trans id)
  have entries : x.au.clients.length = s.au.clients.length + 1 := by
    rw [clients, (putBy_perm_new keysApart).length_eq, List.length_cons]
  have held : x.hasEntry r.client = true := by
    refine List.find?_isSome.mpr ⟨s.scored (s.joinEntry r), ?_, beq_iff_eq.mpr id⟩
    rw [clients]
    exact mem_putBy_self _ _ _
  have current : ∀ e ∈ x.au.clients, e.id = r.client → x.scoreOf e = e.score := by
    intro e he same
    rw [clients] at he
    obtain rfl | old := mem_putBy he
    · exact State.scoreOf_scored (by simp [x, created, State.replyJoin]) (by simp [x, created, State.replyJoin]) entries
    · exact absurd same (missing e old)
  have updated : x.signalUpdate r.client = s.joined r := by
    rw [State.signalUpdate, if_pos held, State.rescore_of_current current, State.joined]
    simp only [x, State.replyJoin, created]
    rfl
  exact congrArg (fun y : State => y.followMove r.client r.cell) updated

theorem State.followMove_of_here {s : State} {cell : Station} (here : cell = 0 ∨ 30 ≤ cell ∨ s.sl.ownAddress = some cell)
    (c : ClientId) : s.followMove c cell = s := by
  have stays : ¬ (isNodeStation cell && !s.isOwn cell) = true := by
    rw [Bool.and_eq_true, isNodeStation_iff, Bool.not_eq_true', State.isOwn_eq_false]
    rintro ⟨⟨low, high⟩, foreign⟩
    obtain none | above | own := here
    · exact absurd low (by rw [none]; decide)
    · exact absurd (Nat.le_trans above high) (by decide)
    · exact foreign own
  exact if_neg stays

theorem State.followMove_of_moved {s : State} {cell : Station} (low : 1 ≤ cell) (high : cell ≤ 29)
    (foreign : s.sl.ownAddress ≠ some cell) (c : ClientId) :
    s.followMove c cell =
      (s.updateEntry c (fun e =>
        { e with contextWait := some { oldStation := cell, expiry := s.now + 10000000 } })).send cell (.clientMoved c true) := by
  have moves : (isNodeStation cell && !s.isOwn cell) = true := by
    rw [Bool.and_eq_true, isNodeStation_iff, Bool.not_eq_true', State.isOwn_eq_false]
    exact ⟨⟨low, high⟩, foreign⟩
  rw [← contextWaitTime_eq]
  exact if_pos moves

/-! ## The handling of a join by what it finds (R8) -/

section
variable {s : State} {r : UplinkRecord}

theorem State.handleJoin_of_not_running (idle : s.sl.nodeState ≠ .running) :
    s.handleJoin r = s.replyJoin r.client .notReady none := by
  have off : (!s.isRunning) = true := by simpa [State.isRunning] using idle
  rw [State.handleJoin, if_pos off]

theorem State.handleJoin_of_entry (running : s.sl.nodeState = .running) {e : ClientEntry}
    (found : s.findEntry r.client = some e) :
    s.handleJoin r =
      match e.state with
      | .associated => s.replyJoin r.client .accepted none
      | .roamIn peer _ => (s.replyJoin r.client .accepted none).activate e peer
      | .roamOut .. => (s.replyJoin r.client .accepted none).returnEntry r.client (some (s.now + holdDownTime))
      | .reserved .. => s.replyJoin r.client .notReady none := by
  have on : ¬ (!s.isRunning) = true := by simpa [State.isRunning] using running
  rw [State.handleJoin, if_neg on, found] <;> rfl

theorem State.handleJoin_of_absent (running : s.sl.nodeState = .running) (absent : s.findEntry r.client = none) :
    s.handleJoin r =
      if clampRssi r.rssi < s.par.joinFloor then s.replyJoin r.client .weak none
      else if s.par.limit ≤ s.au.clients.length then s.replyJoin r.client .full s.redirect
      else s.admitClient r := by
  have on : ¬ (!s.isRunning) = true := by simpa [State.isRunning] using running
  rw [State.handleJoin, if_neg on, absent]

end

/-! ## The redirect (R9) -/

/-- A LIVE NODE peer with a load below its limit is a candidate for a redirect (R9). -/
def State.suits (s : State) (p : PeerEntry) (l : PeerLoad) : Prop :=
  p ∈ s.anu.peers ∧ p.cls = .node ∧ p.status = .live ∧ p.load = some l ∧ l.entries < l.limit

theorem State.mem_suitable {s : State} {p : PeerEntry} :
    p ∈ s.anu.peers.filter (fun p => p.liveNode && p.load.any (fun l => decide (l.entries < l.limit))) ↔ ∃ l, s.suits p l := by
  simp only [List.mem_filter, Bool.and_eq_true, PeerEntry.liveNode, beq_iff_eq, Option.any_eq_true, decide_eq_true_iff, State.suits]
  constructor
  · rintro ⟨held, ⟨node, live⟩, l, load, below⟩
    exact ⟨l, held, node, live, load, below⟩
  · rintro ⟨l, held, node, live, load, below⟩
    exact ⟨held, ⟨node, live⟩, l, load, below⟩

theorem State.redirect_eq_none {s : State} (none : s.redirect = none) (p : PeerEntry) (l : PeerLoad) : ¬ s.suits p l := fun h =>
  List.not_mem_nil (minBy_eq_none.mp (Option.map_eq_none_iff.mp none) ▸ State.mem_suitable.mpr ⟨l, h⟩)

/-- The redirect has the lowest occupancy, and of several the lowest station. -/
theorem State.redirect_eq_some {s : State} {n : Station} (stations : ∀ p ∈ s.anu.peers, p.station ≤ 30)
    (found : s.redirect = some n) :
    ∃ p l, s.suits p l ∧ p.station = n ∧
      ∀ q m, s.suits q m → l.occupancy < m.occupancy ∨ (l.occupancy = m.occupancy ∧ n ≤ q.station) := by
  obtain ⟨p, least, rfl⟩ := Option.map_eq_some_iff.mp found
  obtain ⟨held, lowest⟩ := minBy_spec least
  obtain ⟨l, suits⟩ := State.mem_suitable.mp held
  refine ⟨p, l, suits, rfl, fun q m other => ?_⟩
  have rank : l.occupancy * 2 ^ 8 + p.station ≤ m.occupancy * 2 ^ 8 + q.station := by
    simpa [suits.2.2.2.1, other.2.2.2.1] using lowest q (State.mem_suitable.mpr ⟨m, other⟩)
  have lexicographic (a b : Nat) (ha : a ≤ 30) (hb : b ≤ 30) (le : l.occupancy * 2 ^ 8 + a ≤ m.occupancy * 2 ^ 8 + b) :
      l.occupancy < m.occupancy ∨ (l.occupancy = m.occupancy ∧ a ≤ b) := by omega
  exact lexicographic _ _ (stations p suits.1) (stations q other.1) rank

end Sys2Proof.Machine

open Sys2Proof Sys2Proof.Machine

/-- Settles O13: the entry is created with the score of its own terms, so the signal update after the reply changes nothing but the seats. -/
theorem acceptedJoinCreatesTheEntry : Obligations.AcceptedJoinCreatesTheEntry := by
  intro s dt r running oldest body c v absent floor room signal heard e admitted
  have sl : v.sl = s.sl := by simp [v]
  have par : v.par = s.par := congrArg (fun x : StartUp => x.params.getD Params.default) sl
  have joined : admitted = v.joined r := by
    have ru : v.ru = s.ru := by simp [v]
    have now : v.now = s.now + dt := by simp [v]
    have entry : e = v.scored (v.joinEntry r) := by
      simp only [e, signal, heard, State.joinEntry, c]
      cases v.findSighting r.client <;>
        simp [State.scored, ClientEntry.fresh, ru, now, firstSample, clampRssi]
    simp only [admitted, State.joined, entry, c]
  have next : exec (.joinRequest dt) s = .next (admitted.followMove r.client r.cell) := by
    rw [exec_joinRequest oldest dt body, State.onRecord_of_started (State.not_starting_of_running running)]
    show Host.Outcome.next (v.handleJoin r) = _
    rw [State.handleJoin_of_absent (sl ▸ running) absent, par, clampRssi, if_neg (not_lt.mpr floor), if_neg (Nat.not_le.mpr room),
      State.admitClient_eq absent, joined]
  have own : admitted.sl = s.sl := by simp [admitted, sl]
  refine ⟨fun here => ?_, fun low high foreign => ?_⟩
  · rw [next, State.followMove_of_here (own ▸ here)]
  · have now : admitted.now = s.now + dt := by simp [admitted, v]
    rw [next, State.followMove_of_moved low high (own ▸ foreign), now]

/-- Settles O14: one branch of the join for each refusal; the redirect is the minimum of its rank over the suitable peers. -/
theorem refusedJoinsSayWhy : Obligations.RefusedJoinsSayWhy := by
  intro s dt r started oldest body stations v refused suits
  have sl : v.sl = s.sl := by simp [v]
  have par : v.par = s.par := congrArg (fun x : StartUp => x.params.getD Params.default) sl
  have next : exec (.joinRequest dt) s = .next (v.handleJoin r) := by
    rw [exec_joinRequest oldest dt body, State.onRecord_of_started started]
    rfl
  refine ⟨fun idle => ?_, fun running => ⟨fun e a x found reserved => ?_, fun absent => ⟨fun weak => ?_, fun floor full => ?_⟩⟩⟩
  · rw [next, State.handleJoin_of_not_running (sl ▸ idle)]
    rfl
  · rw [next, State.handleJoin_of_entry (sl ▸ running) found, reserved]
    rfl
  · rw [next, State.handleJoin_of_absent (sl ▸ running) absent, par, clampRssi, if_pos weak]
    rfl
  · have peers : v.anu.peers = s.anu.peers := (State.sample_lists _ _ _ _).1
    refine ⟨v.redirect, ?_, fun none p l => ?_, fun n found => ?_⟩
    · rw [next, State.handleJoin_of_absent (sl ▸ running) absent, par, clampRssi, if_neg (not_lt.mpr floor), if_pos full]
      rfl
    · have none := State.redirect_eq_none none p l
      rwa [State.suits, peers] at none
    · have best := State.redirect_eq_some (peers ▸ stations) found
      simp only [State.suits, peers] at best
      exact best

/-- Settles O15: one case for each state of the entry that a join finds. -/
theorem joinOfAHeldClient : Obligations.JoinOfAHeldClient := by
  intro s dt r e running oldest body v w hold found
  have sl : v.sl = s.sl := by simp [v]
  have now : v.now = s.now + dt := by simp [v]
  have id := State.findEntry_id found
  have next : exec (.joinRequest dt) s = .next (v.handleJoin r) := by
    rw [exec_joinRequest oldest dt body, State.onRecord_of_started (State.not_starting_of_running running)]
    rfl
  have later : w.now = s.now + dt := by simp [w, now]
  refine ⟨fun associated => ?_, fun peer x roamIn => ?_, fun peer x roamOut => ?_⟩
  · rw [next, State.handleJoin_of_entry (sl ▸ running) found, associated]
    rfl
  · rw [next, State.handleJoin_of_entry (sl ▸ running) found, roamIn]
    show Host.Outcome.next (w.activate e peer) = _
    simp only [State.activate, id, holdDownTime_eq, later, hold]
  · rw [next, State.handleJoin_of_entry (sl ▸ running) found, roamOut]
    show Host.Outcome.next (w.returnEntry r.client (some (v.now + holdDownTime))) = _
    have own : w.own = s.own := by simp [State.own, w, sl]
    rw [State.returnEntry, holdDownTime_eq, now, own]

end

section
/-! SUPPORT. Leaves, capability pieces and subscriptions (R11 to R18): removal with its lowered counts, the trimming passes, and the answers
of a subscription in order. -/

namespace Sys2Proof.Machine

/-! ## Reading a field that a change keeps -/

/-- A field that each item keeps is read as before. -/
theorem find_map_read {α κ β : Type} [BEq κ] {key : α → κ} {read : α → β} {f : α → α} (sameKey : ∀ x, key (f x) = key x)
    (sameRead : ∀ x, read (f x) = read x) (k : κ) (l : List α) :
    ((l.map f).find? (fun x => key x == k)).map read = (l.find? (fun x => key x == k)).map read := by
  have keys : (fun x => key x == k) ∘ f = fun x => key x == k := funext fun x => by simp [sameKey]
  have reads : read ∘ f = read := funext sameRead
  rw [List.find?_map, keys, Option.map_map, reads]

theorem StreamEntry.lowered_tier (e : StreamEntry) : e.lowered.tier = e.tier := by
  unfold StreamEntry.lowered
  dsimp only
  repeat' split
  all_goals rfl

/-- A change of one stream that keeps a field keeps it of every stream. -/
theorem State.updateStream_read {β : Type} {read : StreamEntry → β} {f : StreamEntry → StreamEntry} (id : ∀ e, (f e).id = e.id)
    (same : ∀ e, read (f e) = read e) (s : State) (i j : StreamId) :
    ((s.updateStream i f).findStream j).map read = (s.findStream j).map read := by
  refine find_map_read (key := fun e : StreamEntry => e.id) (fun e => ?_) (fun e => ?_) j s.ru.catalogue
  · split
    · exact id e
    · rfl
  · split
    · exact same e
    · rfl

/-! ## Removal (R12, R13) -/

/-- Each stream of a list without repetitions loses one subscriber, and no other stream changes. -/
theorem State.foldl_lowerCount_eq {l : List StreamId} (apart : l.Nodup) (s : State) :
    l.foldl State.lowerCount s =
      s.setRu { s.ru with catalogue := s.ru.catalogue.map (fun st => if st.id ∈ l then st.lowered else st) } := by
  induction l generalizing s with
  | nil => simp; rfl
  | cons i l ih =>
    obtain ⟨new, apart⟩ := List.nodup_cons.mp apart
    rw [List.foldl_cons, ih apart, State.lowerCount, State.updateStream, State.setRu_setRu, State.setRu_ru, List.map_map]
    refine congrArg (fun cat => s.setRu { s.ru with catalogue := cat }) (List.map_congr_left fun st _ => ?_)
    by_cases same : st.id = i
    · simp [same, StreamEntry.lowered_id, new]
    · simp [same]

/-- The state without a client's counted entry, each of its streams lowered by one (R13). -/
def State.without (s : State) (c : ClientId) (e : ClientEntry) : State :=
  (s.setAu { s.au with clients := s.au.clients.filter (fun x => x.id != c) }).setRu
    { s.ru with catalogue := s.ru.catalogue.map (fun st => if st.id ∈ e.subscriptions then st.lowered else st) }

theorem State.removeEntry_of_counted {s : State} {c : ClientId} {e : ClientEntry} (found : s.findEntry c = some e)
    (counted : e.state.counted = true) (apart : e.subscriptions.Nodup) : s.removeEntry c = s.without c e := by
  rw [State.removeEntry, found]
  simp only [if_pos counted, State.foldl_lowerCount_eq apart]
  rfl

theorem State.removeEntry_of_uncounted {s : State} {c : ClientId} {e : ClientEntry} (found : s.findEntry c = some e)
    (uncounted : e.state.counted = false) :
    s.removeEntry c = s.setAu { s.au with clients := s.au.clients.filter (fun x => x.id != c) } := by
  rw [State.removeEntry, found]
  simp only [uncounted, Bool.false_eq_true, if_false]

/-- The inactivity times of R12 in ticks. -/
theorem ClientEntry.inactivityDeadline_eq (e : ClientEntry) :
    e.inactivityDeadline = e.lastHeard + (if e.bindings = [] then 600000000 else 1800000000) := by
  cases h : e.bindings <;> simp [ClientEntry.inactivityDeadline, h, seconds]

theorem State.inactive_iff (s : State) (e : ClientEntry) :
    s.inactive e = true ↔
      e.state.counted = true ∧ e.lastHeard + (if e.bindings = [] then 600000000 else 1800000000) ≤ s.now := by
  rw [State.inactive, Bool.and_eq_true, State.reached_iff, ClientEntry.inactivityDeadline_eq]

/-! ## Capability pieces (R14 to R16) -/

/-- A record in use and an empty assembly part (R15). -/
def ClientEntry.equipped (record : CapRecord) (e : ClientEntry) : ClientEntry :=
  { e with record := some record, assemblyNext := 0, assemblyBytes := [] }

/-- The streams of a list leave a client's entry, each with its answer REMOVED and its count lowered (R16). -/
def State.takeAway (s : State) (c : ClientId) (streams : List StreamId) : State :=
  streams.foldl (fun s i => s.withdrawStream c .removed i) s

/-- No withdrawal changes a stream's tier. -/
theorem State.isHigh_takeAway (s : State) (c : ClientId) (streams : List StreamId) (i : StreamId) :
    (s.takeAway c streams).isHigh i = s.isHigh i := by
  have isHigh_eq (s : State) : s.isHigh i = ((s.findStream i).map (·.tier)).any (· == .high) := by
    rw [State.isHigh]
    cases s.findStream i <;> rfl
  have step (s : State) (j : StreamId) : (s.withdrawStream c .removed j).isHigh i = s.isHigh i := by
    rw [State.withdrawStream_eq, isHigh_eq, isHigh_eq]
    have tier := State.updateStream_read StreamEntry.lowered_id StreamEntry.lowered_tier
      (s.updateEntry c (fun e => { e with subscriptions := e.subscriptions.filter (fun x => x != j) })) j i
    rw [State.findStream, (State.handReply_frame _ _).2.2.2.2.2.2.1]
    exact congrArg (fun t : Option Tier => t.any (· == .high)) tier
  exact foldl_frame (fun s : State => s.isHigh i) step streams s

/-- The record in use and the two passes that bring the list into line with it (R15, R16). -/
theorem State.completeRecord_eq {s : State} {c : ClientId} {e : ClientEntry} (found : s.findEntry c = some e) (bytes : List Byte) :
    let r := decodeRecord bytes
    let shortened := (s.updateEntry c (ClientEntry.equipped r)).takeAway c (e.subscriptions.drop r.maxSubscriptions).reverse
    s.completeRecord c bytes =
      if e.record.any (fun old => old.tier == .high) && r.tier == .low then
        shortened.takeAway c ((e.subscriptions.take r.maxSubscriptions).filter s.isHigh)
      else shortened := by
  intro r shortened
  have installed : (s.updateEntry c (ClientEntry.equipped r)).findEntry c = some (e.equipped r) := by
    rw [State.findEntry_updateEntry_self s c (f := ClientEntry.equipped r) (fun _ => rfl), found]
    rfl
  have high : shortened.isHigh = s.isHigh := funext (State.isHigh_takeAway _ c _)
  rw [State.completeRecord, found]
  show (s.updateEntry c (ClientEntry.equipped r)).trimSubscriptions c r.maxSubscriptions _ = _
  rw [State.trimSubscriptions, installed, ← high]
  rfl

/-! ## The stray test and the entry of a record's client (R7, R14) -/

theorem State.onAssociated_of_associated {u : State} {r : UplinkRecord} {e : ClientEntry}
    (found : (u.sampleOf r).findEntry r.client = some e) (associated : e.state = .associated)
    (act : State → ClientEntry → State) : u.onAssociated r act = act (u.sampleOf r) e := by
  have held : (u.sampleOf r).associatedEntry r.client = some e := by
    rw [State.associatedEntry, found]
    simp [associated]
  rw [State.onAssociated, State.strayTest_of_entry found]
  simp only [held]

/-! ## Subscriptions (R17, R108) -/

/-- A slot start is one of the changes of the Replay Unit that slot starts make. -/
theorem State.startSlot_ru (s : State) (k : Nat) : SlotStarts s.ru k (s.startSlot k).ru := by
  have idle : SlotStarts s.ru k { s.ru with cycle := { s.ru.cycle with slot := some k } } := .idle
  let u := s.setRu { s.ru with cycle := { s.ru.cycle with slot := some k } }
  have under (e : StreamEntry) (found : s.ru.find e.id = some e) (active : e.activity = .active) :
      SlotStarts s.ru k (u.underrun e).ru := by
    obtain h | ⟨g, r, aired, -, h⟩ := u.underrun_cases e
    · rw [h, (State.count_frame _ _).2.2.2.2.2.2.1]
      exact .underruns e 0 found active (.inl rfl)
    · rw [h, (State.enqueueDownlink_frame _ _).2.2.2.2.2.2.1, (State.count_frame _ _).2.2.2.2.2.2.1]
      exact .underruns e g.units found active (.inr ⟨g, aired, rfl⟩)
  unfold State.startSlot
  dsimp only
  split
  next => exact idle
  next e held =>
    have found : s.ru.find e.id = some e := State.slotStream_some held
    split
    next active =>
      split
      next g due =>
        split
        · rw [State.airSegment_eq, (State.count_frame _ _).2.2.2.2.2.2.1, (State.enqueueDownlink_frame _ _).2.2.2.2.2.2.1]
          exact .airs e g found active due
        · exact under e found active
      next => exact under e found active
    next => exact idle

/-- The air group of a stream (R111). -/
def ReplayUnit.groupOf (v : ReplayUnit) (i : StreamId) : Option Nat := (v.find i).bind (·.airGroup)

theorem ReplayUnit.groupOf_of_map {v w : ReplayUnit} {f : StreamEntry → StreamEntry} (cat : w.catalogue = v.catalogue.map f)
    (id : ∀ e, (f e).id = e.id) (group : ∀ e, (f e).airGroup = e.airGroup) (i : StreamId) : w.groupOf i = v.groupOf i := by
  have groupOf_eq (v : ReplayUnit) : v.groupOf i = ((v.find i).map (·.airGroup)).join := by
    rw [ReplayUnit.groupOf]
    cases v.find i <;> rfl
  rw [groupOf_eq, groupOf_eq, ReplayUnit.find, cat]
  exact congrArg Option.join (find_map_read (key := fun e : StreamEntry => e.id) id group i v.catalogue)

theorem StreamEntry.afterUnderrun_airGroup (e : StreamEntry) : e.afterUnderrun.airGroup = e.airGroup := by
  unfold StreamEntry.afterUnderrun
  dsimp only
  repeat' split
  all_goals rfl

theorem StreamEntry.activated_airGroup (e : StreamEntry) : e.activated.airGroup = e.airGroup := by
  unfold StreamEntry.activated
  split <;> rfl

theorem ReplayUnit.groupOf_change {v : ReplayUnit} {f : StreamEntry → StreamEntry} (id : ∀ e, (f e).id = e.id)
    (group : ∀ e, (f e).airGroup = e.airGroup) (i j : StreamId) : (v.change i f).groupOf j = v.groupOf j := by
  refine ReplayUnit.groupOf_of_map (f := fun e => if e.id == i then f e else e) rfl (fun e => ?_) (fun e => ?_) j
  · split
    · exact id e
    · rfl
  · split
    · exact group e
    · rfl

theorem SlotStarts.groupOf {v w : ReplayUnit} {k : Nat} (m : SlotStarts v k w) (i : StreamId) : w.groupOf i = v.groupOf i := by
  cases m with
  | idle => rfl
  | airs e g =>
    exact ReplayUnit.groupOf_change (v := v.slotStarted k g.units) (f := StreamEntry.afterAiring g) (fun _ => rfl)
      (fun _ => rfl) e.id i
  | underruns e n =>
    exact ReplayUnit.groupOf_change (v := v.slotStarted k n) (fun e => (e.steady_afterUnderrun).id)
      StreamEntry.afterUnderrun_airGroup e.id i

/-- A cycle start gives no air group away. -/
theorem State.startCycleFromStopped_group (s : State) (i : StreamId) :
    (s.startCycleFromStopped.findStream i).bind (·.airGroup) = (s.findStream i).bind (·.airGroup) := by
  have slot := (State.startSlot_ru (s.setRu (s.ru.cycleStarted (fun _ => 0) s.now)) 0).groupOf i
  exact slot.trans (ReplayUnit.groupOf_of_map (v := s.ru) rfl (fun e => (e.steady_activated).id)
    StreamEntry.activated_airGroup i)

theorem State.freeGroup_eq_none {s : State} : s.freeGroup = none ↔ ∀ g < 8, ∃ x ∈ s.ru.catalogue, x.airGroup = some g := by
  simp [State.freeGroup, State.groupHeld]

theorem State.freeGroup_eq_some {s : State} {g : Nat} (small : g < 8) (free : ∀ x ∈ s.ru.catalogue, x.airGroup ≠ some g)
    (lowest : ∀ h < g, ∃ x ∈ s.ru.catalogue, x.airGroup = some h) : s.freeGroup = some g := by
  rw [State.freeGroup, List.find?_range_eq_some]
  refine ⟨?_, List.mem_range.mpr small, fun h below => ?_⟩
  · simpa [State.groupHeld] using free
  · simpa [State.groupHeld] using lowest h below

/-! ## The tests of a subscription in order (R17) -/

theorem State.applySubscription_of_unknown {s : State} {c : ClientId} {e : ClientEntry} (found : s.findEntry c = some e)
    {i : StreamId} (unknown : ∀ st, s.findStream i = some st → st.ended = true) :
    s.applySubscription c i = s.handReply (.subscribeReply c i .unknownStream none) := by
  have none : s.subscribable i = none := by
    simpa [State.subscribable] using unknown
  rw [State.applySubscription, found]
  simp only [none]

theorem State.applySubscription_of_known {s : State} {c : ClientId} {e : ClientEntry} (found : s.findEntry c = some e)
    {i : StreamId} {st : StreamEntry} (held : s.findStream i = some st) (live : st.ended = false) :
    s.applySubscription c i =
      if i ∈ e.subscriptions then s.handReply (.subscribeReply c i .ok st.airGroup)
      else if st.tier = .high ∧ e.tier = .low then s.handReply (.subscribeReply c i .tier none)
      else if e.maxSubscriptions ≤ e.subscriptions.length then s.handReply (.subscribeReply c i .limit none)
      else if st.activity = .dormant ∧ s.freeGroup = none then s.handReply (.subscribeReply c i .noAirGroup none)
      else
        let raised := (s.updateEntry c (fun e => { e with subscriptions := e.subscriptions ++ [i] })).raiseCount i
        raised.handReply (.subscribeReply c i .ok ((raised.findStream i).bind (·.airGroup))) := by
  have known : s.subscribable i = some st := by simp [State.subscribable, held, live]
  rw [State.applySubscription, found]
  simp only [known]

section
variable {s : State} {i : StreamId} {st : StreamEntry} (held : s.findStream i = some st)
include held

/-- The air group that a stream has after a change of its own. -/
theorem State.updateStream_group {f : StreamEntry → StreamEntry} (id : ∀ e, (f e).id = e.id) :
    ((s.updateStream i f).findStream i).bind (·.airGroup) = (f st).airGroup := by
  rw [State.findStream_updateStream_self s i id, held]
  rfl

theorem State.raiseCount_of_heard (heard : st.subscribers ≠ 0) :
    s.raiseCount i = s.updateStream i (fun x => { x with subscribers := x.subscribers + 1 }) := by
  rw [State.raiseCount, held]
  simp only [heard, false_and, if_false]

theorem State.raiseCount_of_leaving (unheard : st.subscribers = 0) (leaving : st.activity = .leaving) :
    s.raiseCount i = s.updateStream i (fun x => { x with subscribers := 1, activity := .active }) := by
  rw [State.raiseCount, held]
  simp only [unheard, leaving, reduceCtorEq, and_false, if_false, and_self, if_true]

theorem State.raiseCount_of_dormant (unheard : st.subscribers = 0) (dormant : st.activity = .dormant) :
    s.raiseCount i =
      if s.ru.cycle.running then s.updateStream i (StreamEntry.joined s.freeGroup)
      else (s.updateStream i (StreamEntry.joined s.freeGroup)).startCycleFromStopped := by
  rw [State.raiseCount, held]
  simp only [unheard, dormant, and_self, if_true]
  rfl

end

/-! ## A fall of a count (R109, R127) -/

theorem StreamEntry.lowered_of_more {e : StreamEntry} (more : 2 ≤ e.subscribers) :
    e.lowered = { e with subscribers := e.subscribers - 1 } :=
  if_neg (by dsimp only; omega)

theorem StreamEntry.lowered_of_last {e : StreamEntry} (last : e.subscribers ≤ 1) :
    e.lowered =
      match e.activity with
      | .joining => StreamEntry.cleared { e with subscribers := 0 }
      | .active => { e with subscribers := 0, activity := .leaving, joinMarker := false }
      | _ => { e with subscribers := 0 } := by
  have zero : e.subscribers - 1 = 0 := by omega
  simp only [StreamEntry.lowered, zero, if_true] <;> cases e.activity <;> rfl

end Sys2Proof.Machine

open Sys2Proof Sys2Proof.Machine

/-- Settles O16: the removal lowers each stream of the entry once, for a LEAVE and for an inactivity expiry alike. -/
theorem leaveAndInactivityRemoveTheClient : Obligations.LeaveAndInactivityRemoveTheClient := by
  intro s dt c removed
  refine ⟨?leave, ?inactivity⟩
  case leave =>
    rintro r started oldest body rfl v
    have own : v.sl = s.sl := by simp [v]
    have next : exec (.leave dt) s = .next ((v.strayTest r).handleLeave r.client) := by
      rw [exec_leave oldest dt body, State.onRecord_of_started started]
      rfl
    have absentLeaves {w : State} (absent : w.findEntry r.client = none) : w.handleLeave r.client = w := by
      rw [State.handleLeave, absent]
    refine ⟨fun e found counted apart => ?_, fun e found uncounted => ?_, fun absent here => ?_, fun absent foreign => ?_⟩
    · rw [next, State.strayTest_of_entry found, State.handleLeave, found]
      simp only [if_pos counted, State.dropEntry, State.removeEntry_of_counted found counted apart]
      rfl
    · rw [next, State.strayTest_of_entry found, State.handleLeave, found]
      simp only [uncounted, Bool.false_eq_true, if_false]
    · rw [next, State.strayTest_of_absent absent, if_pos (own ▸ here), absentLeaves (by simpa using absent)]
    · rw [next, State.strayTest_of_absent absent, if_neg (own ▸ foreign), absentLeaves absent]
  case inactivity =>
    intro e found counted apart late
    have inactive : (s.elapse dt).inactive e = true := (State.inactive_iff _ _).mpr ⟨counted, late⟩
    have held : (s.elapse dt).findEntry c = some e := found
    show Host.Outcome.next ((s.elapse dt).removeIfInactive c) = _
    rw [State.removeIfInactive, held]
    simp only [if_pos inactive, State.dropEntry, State.removeEntry_of_counted held counted apart]
    rfl

/-- Settles O17: a piece is judged by its index, and a completed record trims the list in the two passes. -/
theorem capabilityPiecesAreAssembled : Obligations.CapabilityPiecesAreAssembled := by
  intro s dt r e i last data started oldest body v assembly found associated
  have id := State.findEntry_id found
  have next : exec (.capsPiece dt) s = .next (v.takePiece e i last data) := by
    rw [exec_capsPiece oldest dt body, State.onRecord_of_started started, State.onAssociated_of_associated found associated]
    rfl
  have completes (stored : i = 0 ∨ i = e.assemblyNext) (final : last = true) :
      v.takePiece e i last data = v.completeRecord r.client (if i = 0 then data else e.assemblyBytes ++ data) := by
    rw [State.takePiece, id, final]
    obtain first | expected := stored
    · simp [first]
    · by_cases first : i = 0 <;> simp [first, ← expected]
  refine ⟨fun first more => ?_, fun later expected more inside => ?_, fun sixteenth expected more => ?_, fun later other => ?_,
    fun stored final empty => ?_, fun stored final => ?_⟩
  · rw [next, State.takePiece, id, if_pos first, more]
    rfl
  · rw [next, State.takePiece, id, if_neg later, if_pos expected, more, if_neg Bool.false_ne_true, if_neg inside]
    rfl
  · rw [next, State.takePiece, id, if_neg (by rw [sixteenth]; decide), if_pos expected, more, if_neg Bool.false_ne_true,
      if_pos sixteenth]
    rfl
  · rw [next, State.takePiece, id, if_neg later, if_neg other]
    rfl
  · intro bytes
    rw [next, completes stored final, State.completeRecord_eq found, empty, List.drop_nil, List.take_nil]
    exact congrArg Host.Outcome.next (ite_self _)
  · intro bytes limit tier installed removed shortened high
    have passes := State.completeRecord_eq found bytes
    refine ⟨fun wasHigh low => ?_, fun kept => ?_⟩
    · obtain ⟨old, inUse, oldHigh⟩ := wasHigh
      have fell : (e.record.any (fun old => old.tier == .high) && (decodeRecord bytes).tier == .low) = true := by
        rw [inUse, Bool.and_eq_true]
        exact ⟨beq_iff_eq.mpr oldHigh, beq_iff_eq.mpr low⟩
      rw [next, completes stored final, passes, if_pos fell]
      rfl
    · have stays : ¬ (e.record.any (fun old => old.tier == .high) && (decodeRecord bytes).tier == .low) = true := by
        rw [Bool.and_eq_true, Option.any_eq_true, beq_iff_eq]
        simp only [beq_iff_eq]
        exact kept
      rw [next, completes stored final, passes, if_neg stays]
      rfl

/-- Settles O18: the tests of R17 one after the other, then the three rises of a count; a fall goes by the stream's activity. -/
theorem subscribingChangesListAndCount : Obligations.SubscribingChangesListAndCount := by
  refine ⟨fun s dt r e i started oldest => ?_, fun x => ?_⟩
  · intro v answers limit high listed found associated
    have id := State.findEntry_id found
    have max : e.maxSubscriptions = limit := by
      simp only [ClientEntry.maxSubscriptions, limit]
      cases e.record <;> rfl
    have isHigh : e.tier = .low ↔ ¬ high := by
      simp only [ClientEntry.tier, high]
      cases e.record with
      | none => simp
      | some c => cases h : c.tier <;> simp [h]
    refine ⟨fun body => ?_, fun body => ?_, fun body => ?_⟩
    · have applied {w : State} {code : SubscribeCode} {group : Option Nat}
          (same : v.applySubscription r.client i = w.handReply (.subscribeReply r.client i code group)) :
          answers w code group := by
        show exec (.subscribeOn dt) s = _
        rw [exec_subscribeOn oldest dt body, State.onRecord_of_started started,
          State.onAssociated_of_associated found associated]
        exact congrArg Host.Outcome.next same
      refine ⟨fun unknown => applied (State.applySubscription_of_unknown found unknown), fun st held live => ?_⟩
      have tested := State.applySubscription_of_known found held live
      have heldStill : listed.findStream i = some st := held
      refine ⟨fun already => ?_, fun new tier low => ?_, fun new allowed => ⟨fun full => ?_, fun below =>
        ⟨fun dormant none => ?_, fun heard awake => ?_, fun unheard leaving => ?_, fun g unheard dormant small free lowest => ?_⟩⟩⟩
      · exact applied (tested.trans (if_pos already))
      · exact applied (tested.trans ((if_neg new).trans (if_pos ⟨tier, isHigh.mpr low⟩)))
      all_goals
        have passes : ¬ (st.tier = .high ∧ e.tier = .low) := fun ⟨tier, low⟩ =>
          allowed.elim (fun h => absurd (h.symm.trans tier) (by decide)) (isHigh.mp low)
        rw [if_neg new, if_neg passes] at tested
      · exact applied (tested.trans (if_pos (max ▸ full)))
      all_goals rw [if_neg (max ▸ Nat.not_le.mpr below)] at tested
      · exact applied (tested.trans (if_pos ⟨dormant, State.freeGroup_eq_none.mpr none⟩))
      · rw [if_neg (fun h => awake h.1)] at tested
        refine applied (tested.trans ?_)
        show ((listed.raiseCount i).handReply _ : State) = _
        rw [State.raiseCount_of_heard heldStill heard,
          State.updateStream_group heldStill (f := fun x => { x with subscribers := x.subscribers + 1 }) (fun _ => rfl)]
      · rw [if_neg (fun h => absurd (h.1.symm.trans leaving) (by decide))] at tested
        refine applied (tested.trans ?_)
        show ((listed.raiseCount i).handReply _ : State) = _
        rw [State.raiseCount_of_leaving heldStill unheard leaving,
          State.updateStream_group heldStill (f := fun x => { x with subscribers := 1, activity := .active }) (fun _ => rfl)]
      · intro joined
        have group : v.freeGroup = some g := State.freeGroup_eq_some small free lowest
        have running : listed.ru.cycle.running = s.ru.cycle.running := by simp [listed, v]
        have raised : listed.raiseCount i = if s.ru.cycle.running then joined else joined.startCycleFromStopped := by
          rw [State.raiseCount_of_dormant heldStill unheard dormant, running, show listed.freeGroup = some g from group]
          rfl
        have own : (joined.findStream i).bind (·.airGroup) = some g :=
          State.updateStream_group heldStill (f := StreamEntry.joined (some g)) fun _ => rfl
        have kept : ((listed.raiseCount i).findStream i).bind (·.airGroup) = some g := by
          rw [raised]
          split
          · exact own
          · rw [State.startCycleFromStopped_group, own]
        rw [if_neg (fun h => absurd (group.symm.trans h.2) (Option.some_ne_none g))] at tested
        refine applied (tested.trans ?_)
        show ((listed.raiseCount i).handReply (.subscribeReply r.client i .ok
          (((listed.raiseCount i).findStream i).bind (·.airGroup))) : State) = _
        rw [kept, raised]
    · rw [exec_subscribeOn oldest dt body, State.onRecord_of_started started, State.onAssociated_of_associated found associated]
      rfl
    · rw [exec_subscribeOff oldest dt body, State.onRecord_of_started started,
        State.onAssociated_of_associated found associated]
      show Host.Outcome.next (v.unsubscribe e i) = _
      rw [State.unsubscribe, id]
      rfl
  · refine ⟨StreamEntry.lowered_of_more, fun last => ⟨fun joining => ?_, fun active => ?_, fun other => ?_⟩⟩
    · rw [StreamEntry.lowered_of_last last, joining]
      rfl
    · rw [StreamEntry.lowered_of_last last, active]
    · obtain other | other := other <;> rw [StreamEntry.lowered_of_last last, other]

end

section
/-! SUPPORT. Tokens (R64 to R75): the tests at the origin, the delivery of a decision, forwarding and results. -/

namespace Sys2Proof.Machine

/-! ## What a record's sample and stray test keep -/

theorem State.own_eq_of_sl {s t : State} (sl : t.sl = s.sl) : t.own = s.own := by rw [State.own, sl, State.own]

theorem State.par_eq_of_sl {s t : State} (sl : t.sl = s.sl) : t.par = s.par := by rw [State.par, sl, State.par]

theorem State.sample_matchState (s : State) (c : ClientId) (rssi : Int) (cell : Station) :
    (s.sample c rssi cell).sv.matchState = s.sv.matchState :=
  State.sample_induct (P := fun u => u.sv.matchState = s.sv.matchState) (fun _ _ h => h)
    (fun u d m h => (u.send_sameSeats d m).2.2.trans h)
    (fun u c h => by rw [State.testPresence_eq]; simp only [State.setSv_sv]; split <;> exact h) rfl c rssi cell

/-- The state in which a record's own operation begins: the record taken, sampled and tested for a stray (R6, R7). -/
def State.atRecord (s : State) (dt : Time) (r : UplinkRecord) : State :=
  ((s.elapse dt).recordTaken.sample r.client r.rssi r.cell).strayTest r

section
variable (s : State) (dt : Time) (r : UplinkRecord)

@[simp] theorem State.atRecord_sl : (s.atRecord dt r).sl = s.sl := by
  simp [State.atRecord]

@[simp] theorem State.atRecord_now : (s.atRecord dt r).now = s.now + dt := by
  simp [State.atRecord]

theorem State.strayTest_sv (u : State) : (u.strayTest r).sv = u.sv := by
  unfold State.strayTest
  split <;> simp

theorem State.strayTest_lists (u : State) : u.anu.SameLists (u.strayTest r).anu := by
  unfold State.strayTest
  split
  · exact u.handReply_lists _
  · exact .refl _

@[simp] theorem State.atRecord_matchState : (s.atRecord dt r).sv.matchState = s.sv.matchState := by
  rw [State.atRecord, State.strayTest_sv, State.sample_matchState]
  rfl

@[simp] theorem State.atRecord_peers : (s.atRecord dt r).anu.peers = s.anu.peers :=
  ((State.sample_lists _ r.client r.rssi r.cell).trans (State.strayTest_lists r _)).1

end

theorem exec_token_of_started {s : State} {r : UplinkRecord} {t : Token} (started : s.sl.nodeState ≠ .starting)
    (oldest : s.rp.uplink.head? = some r) (dt : Time) (body : r.body = .token t) :
    exec (.token dt) s = .next ((s.atRecord dt r).takeToken r.client t) := by
  rw [exec_token oldest dt body, State.onRecord_of_started started]
  rfl

theorem State.tokenRefusal_congr {s u : State} (sl : u.sl = s.sl) (matchState : u.sv.matchState = s.sv.matchState) (t : Token) :
    u.tokenRefusal t = s.tokenRefusal t := by
  unfold State.tokenRefusal State.isRunning
  rw [matchState, sl, State.par_eq_of_sl sl]

/-! ## Delivery (R69) -/

section
variable (s : State) (c : ClientId) (n : Serial) (seat : Seat) (owner : Station)

theorem State.deliver_of_binding {code : TokenCode} (binds : code = .accepted ∨ code = .held) :
    s.deliver c n seat code owner =
      ((s.handReply (.tokenReply c code seat)).recordBinding c { seat := seat, serial := n, owner := owner }).count
        .tokensAccepted := by
  obtain rfl | rfl := binds <;> rfl

theorem State.deliver_of_refusal {code : TokenCode} (refused : code.refused = true) :
    s.deliver c n seat code owner = (s.handReply (.tokenReply c code seat)).count .tokensRefused := by
  cases code with
  | accepted | held | pending | tryAgain | matchClosed | notOwner | contestBusy => exact absurd refused Bool.false_ne_true
  | _ => rfl

theorem State.deliver_of_other {code : TokenCode} (unbound : code.binds = false) (unrefused : code.refused = false) :
    s.deliver c n seat code owner = s.handReply (.tokenReply c code seat) := by
  simp only [State.deliver, unbound, unrefused, Bool.false_eq_true, if_false]

end

theorem State.recordBinding_of_counted {s : State} {c : ClientId} {e : ClientEntry} (found : s.findEntry c = some e)
    (counted : e.state.counted = true) (b : Binding) :
    s.recordBinding c b = s.updateEntry c (fun e => { e with bindings := recordInList e.bindings b }) := by
  rw [State.recordBinding, found]
  exact if_pos counted

theorem State.recordBinding_of_uncounted {s : State} {c : ClientId}
    (uncounted : ∀ e, s.findEntry c = some e → e.state.counted = false) (b : Binding) : s.recordBinding c b = s := by
  unfold State.recordBinding
  split
  next e found => rw [uncounted e found, if_neg Bool.false_ne_true]
  next => rfl

theorem State.deliverUnsolicited_of_counted {s : State} {c : ClientId} {e : ClientEntry} (found : s.findEntry c = some e)
    (counted : e.state.counted = true) (n : Serial) (seat : Seat) (code : TokenCode) (owner : Station) :
    s.deliverUnsolicited c n seat code owner = s.deliver c n seat code owner := by
  rw [State.deliverUnsolicited, found]
  exact if_pos counted

theorem State.deliverUnsolicited_of_uncounted {s : State} {c : ClientId}
    (uncounted : ∀ e, s.findEntry c = some e → e.state.counted = false) (n : Serial) (seat : Seat) (code : TokenCode)
    (owner : Station) : s.deliverUnsolicited c n seat code owner = s := by
  unfold State.deliverUnsolicited
  split
  next e found => rw [uncounted e found, if_neg Bool.false_ne_true]
  next => rfl

/-! ## Routing (R67, R68) -/

theorem State.ownsSeat_iff (s : State) (n : Seat) :
    s.ownsSeat n = true ↔ s.sl.defaulted = false ∧ ∃ b, s.par.block = some b ∧ b.first ≤ n ∧ n ≤ b.last := by
  simp only [State.ownsSeat, Bool.and_eq_true, Bool.not_eq_true', Option.any_eq_true, SeatBlock.contains, decide_eq_true_iff]

/-- The peers that may own a seat (R67). -/
def State.ownedBy (s : State) (n : Seat) (p : PeerEntry) : Prop :=
  p ∈ s.anu.peers ∧ p.cls = .node ∧ p.status = .live ∧ ∃ b, p.block = some b ∧ b.first ≤ n ∧ n ≤ b.last

theorem State.mem_owners {s : State} {n : Seat} {p : PeerEntry} :
    p ∈ s.anu.peers.filter (fun p => p.liveNode && p.block.any (fun b => b.contains n)) ↔ s.ownedBy n p := by
  simp only [List.mem_filter, Bool.and_eq_true, PeerEntry.liveNode, beq_iff_eq, Option.any_eq_true, SeatBlock.contains,
    decide_eq_true_iff, State.ownedBy, and_assoc]

theorem State.seatOwner_none {s : State} {n : Seat} : s.seatOwner n = none ↔ ¬ ∃ p, s.ownedBy n p := by
  rw [State.seatOwner, Option.map_eq_none_iff, minBy_eq_none, List.eq_nil_iff_forall_not_mem]
  simp only [State.mem_owners, not_exists]

theorem State.seatOwner_some {s : State} {n : Seat} {a : Station} (owner : s.seatOwner n = some a) :
    (∃ p, s.ownedBy n p ∧ p.station = a) ∧ ∀ p, s.ownedBy n p → a ≤ p.station := by
  obtain ⟨p, least, rfl⟩ := Option.map_eq_some_iff.mp owner
  obtain ⟨held, lowest⟩ := minBy_spec least
  exact ⟨⟨p, State.mem_owners.mp held, rfl⟩, fun q owns => lowest q (State.mem_owners.mpr owns)⟩

theorem PendingToken.matches_eq (p : PendingToken) (c : ClientId) (n : Serial) :
    p.matches c n = (p.client == c && p.token.serial == n) := rfl

theorem State.findPending_isSome {s : State} {c : ClientId} {n : Serial} :
    (s.findPending c n).isSome = true ↔ ∃ p ∈ s.sv.pendingTokens, p.client = c ∧ p.token.serial = n := by
  simp [State.findPending, PendingToken.matches_eq]

theorem pendingTime_eq : seconds 1 = 10000000 := by decide

end Sys2Proof.Machine

open Sys2Proof Sys2Proof.Machine

/-- Settles O19: the tests of R65 one after the other. -/
theorem tokenTestsRunInOrder : Obligations.TokenTestsRunInOrder := by
  intro s dt r t started oldest body v answered
  have sl : v.sl = s.sl := s.atRecord_sl dt r
  have matchState : v.sv.matchState = s.sv.matchState := s.atRecord_matchState dt r
  have par : v.par = s.par := State.par_eq_of_sl sl
  have refused {code : TokenCode} (test : v.tokenRefusal t = some code) : answered code := by
    show exec (.token dt) s = _
    rw [exec_token_of_started started oldest dt body, State.takeToken]
    show Host.Outcome.next (match v.tokenRefusal t with
      | some code => v.deliver r.client t.serial t.seat code v.own
      | none => v.routeToken r.client t) = _
    rw [test, State.own_eq_of_sl sl]
  refine ⟨fun closed => refused ?_, fun opened idle => refused ?_, fun opened running => ?_⟩
  · exact if_pos (matchState.trans closed)
  all_goals have unclosed : ¬ v.sv.matchState = .closed := by rw [matchState, opened]; decide
  · have off : (!v.isRunning) = true := by simpa [State.isRunning, sl] using idle
    rw [State.tokenRefusal, if_neg unclosed, if_pos off]
  have on : ¬ (!v.isRunning) = true := by simp [State.isRunning, sl, running]
  refine ⟨fun form => refused ?_, fun serial low high k codes => ?_⟩
  · rw [State.tokenRefusal, if_neg unclosed, if_neg on, if_pos form]
  have form : ¬ (t.serial = 0 ∨ t.seat < 1 ∨ 999 < t.seat) :=
    not_or.mpr ⟨serial, not_or.mpr ⟨Nat.not_lt.mpr low, Nat.not_lt.mpr high⟩⟩
  have tested : v.tokenRefusal t =
      if t.matchCode ≠ k.matchCode then some .refusedMatch
      else if t.rowCode ≠ k.rowCode then some .refusedRow
      else if t.check ≠ tokenCheckWord k.matchKey t then some .refusedCheck
      else none := by
    rw [State.tokenRefusal, if_neg unclosed, if_neg on, if_neg form, par, codes]
  refine ⟨fun other => refused ?_, fun same other => refused ?_, fun sameMatch sameRow wrong => refused ?_⟩
  · rw [tested, if_pos other]
  · rw [tested, if_neg (not_not.mpr same), if_pos other]
  · rw [tested, if_neg (not_not.mpr sameMatch), if_neg (not_not.mpr sameRow)]
    exact if_pos wrong

/-- Settles O20: routing goes to the own decision; the delivery goes by the code, and the binding by its serial. -/
theorem tokenForAnOwnSeatIsDecided : Obligations.TokenForAnOwnSeatIsDecided := by
  refine ⟨fun s dt r t running opened undefaulted oldest body passed block => ?_, fun s c n seat code owner => ?_,
    fun l b => ⟨fun bound => ?_, fun new few => ?_, fun new full => ?_⟩⟩
  · intro v d
    have sl : v.sl = s.sl := s.atRecord_sl dt r
    have passes : v.tokenRefusal t = none := (State.tokenRefusal_congr sl (s.atRecord_matchState dt r) t).trans passed
    have owns : v.ownsSeat t.seat = true := by
      rw [State.ownsSeat_iff, sl, State.par_eq_of_sl sl]
      exact ⟨undefaulted, block⟩
    have decided : d.1.own = s.own := State.own_eq_of_sl (by simp [d, sl])
    rw [exec_token_of_started (State.not_starting_of_running running) oldest dt body]
    show Host.Outcome.next (v.takeToken r.client t) = _
    rw [State.takeToken, passes]
    simp only [State.routeToken, if_pos owns, State.own_eq_of_sl sl]
    exact congrArg (fun a => Host.Outcome.next (d.1.deliver r.client t.serial t.seat d.2 a)) decided
  · intro replied binding
    refine ⟨fun binds => ⟨fun e found counted => ?_, fun uncounted => ?_⟩, fun refused => ?_, fun other => ?_⟩
    · rw [State.deliver_of_binding s c n seat owner binds, State.recordBinding_of_counted (by simpa using found) counted]
    · rw [State.deliver_of_binding s c n seat owner binds, State.recordBinding_of_uncounted (by simpa using uncounted)]
    · refine State.deliver_of_refusal s c n seat owner ?_
      rcases refused with rfl | rfl | rfl | rfl | rfl | rfl <;> rfl
    · refine State.deliver_of_other s c n seat owner ?_ ?_ <;> rcases other with rfl | rfl | rfl | rfl | rfl <;> rfl
  all_goals
    have bound_iff : l.any (fun x => x.serial == b.serial) = true ↔ b.serial ∈ l.map (·.serial) := by
      simp only [List.any_eq_true, beq_iff_eq, List.mem_map]
  · rw [recordInList, if_pos (bound_iff.mpr bound)]
    simp only [beq_iff_eq]
  · rw [recordInList, if_neg (mt bound_iff.mp new), if_neg (Nat.not_le.mpr few)]
  · rw [recordInList, if_neg (mt bound_iff.mp new), if_pos full, List.drop_one]

/-- Settles O21: absorbed, answered or forwarded; the destination is the lowest owner among the peers. -/
theorem tokenForAForeignSeatIsForwarded : Obligations.TokenForAForeignSeatIsForwarded := by
  intro s dt r t running opened oldest body passed foreign v waits owns
  have sl : v.sl = s.sl := s.atRecord_sl dt r
  have passes : v.tokenRefusal t = none := (State.tokenRefusal_congr sl (s.atRecord_matchState dt r) t).trans passed
  have peers : v.anu.peers = s.anu.peers := s.atRecord_peers dt r
  have now : v.now = s.now + dt := s.atRecord_now dt r
  have notOwn : ¬ v.ownsSeat t.seat = true := by
    rw [State.ownsSeat_iff, sl, State.par_eq_of_sl sl]
    rintro ⟨undefaulted, b, block, low, high⟩
    obtain defaulted | outside := foreign
    · exact absurd (undefaulted.symm.trans defaulted) (by decide)
    · exact (outside b block).elim (fun below => Nat.lt_irrefl _ (Nat.lt_of_lt_of_le below low))
        fun above => Nat.lt_irrefl _ (Nat.lt_of_lt_of_le above high)
  let d : Station := if s.sl.defaulted then gateway else (v.seatOwner t.seat).getD gateway
  have next : exec (.token dt) s = .next (v.forwardToken r.client t d) := by
    rw [exec_token_of_started (State.not_starting_of_running running) oldest dt body]
    show Host.Outcome.next (v.takeToken r.client t) = _
    rw [State.takeToken, passes]
    simp only [State.routeToken, if_neg notOwn, sl, d]
    split <;> rfl
  have waits_iff : (v.findPending r.client t.serial).isSome = true ↔ waits := State.findPending_isSome
  have owns_eq : v.ownedBy t.seat = owns := funext fun p => by
    rw [State.ownedBy, peers]
  refine ⟨fun waiting => ?_, fun idle full => ?_, fun idle room => ⟨d, ?_, ?_, ?_, ?_⟩⟩
  · rw [next, State.forwardToken, if_pos (waits_iff.mpr waiting)]
  · rw [next, State.forwardToken, if_neg (mt waits_iff.mp idle), pendingPlaces, if_pos full]
    rfl
  · rw [next, State.forwardToken, if_neg (mt waits_iff.mp idle), pendingPlaces, if_neg (Nat.not_le.mpr room), State.pendingExpiry,
      pendingTime_eq, now]
  · rintro (defaulted | unowned)
    · exact if_pos defaulted
    · have none : v.seatOwner t.seat = none := State.seatOwner_none.mpr (owns_eq ▸ unowned)
      simp only [d, none]
      exact ite_self _
  all_goals
    intro undefaulted
    have fallback : d = (v.seatOwner t.seat).getD gateway := if_neg (by rw [undefaulted]; decide)
  · intro p owner
    cases found : v.seatOwner t.seat with
    | none => exact absurd ⟨p, owns_eq ▸ owner⟩ (State.seatOwner_none.mp found)
    | some a =>
      rw [fallback, found]
      exact (State.seatOwner_some found).2 p (owns_eq ▸ owner)
  · rintro ⟨p, owner⟩
    cases found : v.seatOwner t.seat with
    | none => exact absurd ⟨p, owns_eq ▸ owner⟩ (State.seatOwner_none.mp found)
    | some a =>
      rw [fallback, found]
      exact owns_eq ▸ (State.seatOwner_some found).1

/-- Settles O23: the forward's code is found in order, and one result goes to its source. -/
theorem forwardedTokenIsAnswered : Obligations.ForwardedTokenIsAnswered := by
  intro s dt f c t started oldest kind reads low high u answered
  have next : exec (.tokenForward dt) s = .next (u.takeForward f c t) := by
    rw [exec_tokenForward dt oldest kind reads, State.onFrame_of_started started]
  have station : isStation f.source = true := decide_eq_true_iff.mpr ⟨low, high⟩
  refine ⟨fun toAll => ?_, fun toMe => ?_⟩
  · rw [next, State.takeForward, if_pos (.inl toAll)]
  have acts {v : State} {code : TokenCode} (answer : u.answerForward f.source c t = (v, code)) : answered v code := by
    show exec (.tokenForward dt) s = _
    rw [next, State.takeForward, if_neg (not_or.mpr ⟨toMe, by rw [station]; decide⟩), answer]
  refine ⟨fun closed => acts (if_pos closed), fun opened idle => acts ?_, fun opened running => acts ?_⟩
  all_goals have unclosed : ¬ u.sv.matchState = .closed := by show ¬ s.sv.matchState = .closed; rw [opened]; decide
  · have off : (!u.isRunning) = true := by simpa [u, State.isRunning] using idle
    rw [State.answerForward, if_neg unclosed, if_pos off]
  · have on : ¬ (!u.isRunning) = true := by simpa [u, State.isRunning] using running
    rw [State.answerForward, if_neg unclosed, if_neg on]

/-- Settles O24: the pending entry that the result names decides. -/
theorem resultSettlesThePendingToken : Obligations.ResultSettlesThePendingToken := by
  intro s dt source c n seat code u without
  have erased (v : State) : v.erasePending c n = without v := rfl
  refine ⟨fun started closed carried => ?_, fun started opened carried => ?_, fun p found late => ?_⟩
  · rw [exec_tokenResult dt carried, State.onFrame_of_started started]
    exact congrArg Host.Outcome.next (if_pos closed)
  · have next : exec (.tokenResult dt) s = .next (u.takeResult source c n seat code) := by
      rw [exec_tokenResult dt carried, State.onFrame_of_started started]
      exact congrArg Host.Outcome.next (if_neg (by show ¬ s.sv.matchState = .closed; rw [opened]; decide))
    have pending : u.findPending c n = s.findPending c n := rfl
    refine ⟨fun p found final => ?_, fun p found foreign first => ⟨_, next, ?_⟩, fun none e found counted => ?_,
      fun none uncounted => ?_⟩
    · rw [next, State.takeResult, pending, found]
      exact congrArg Host.Outcome.next (if_neg final)
    · have key : p.client = c ∧ p.token.serial = n := by
        simpa [PendingToken.matches_eq] using List.find?_some found
      rw [State.takeResult, pending, found]
      simp only [if_pos (And.intro foreign first), State.reforward, State.pendingExpiry, pendingTime_eq, key.1, key.2]
      rfl
    · rw [next, State.takeResult, pending, none]
      exact congrArg Host.Outcome.next (State.deliverUnsolicited_of_counted (s := u) found counted ..)
    · rw [next, State.takeResult, pending, none]
      exact congrArg Host.Outcome.next (State.deliverUnsolicited_of_uncounted (s := u) uncounted ..)
  · have key : p.client = c ∧ p.token.serial = n := by
      simpa [PendingToken.matches_eq] using List.find?_some found
    have reached : (s.elapse dt).reached p.expiry = true := (State.reached_iff _ _).mpr late
    show Host.Outcome.next (match (s.elapse dt).findPending c n with
      | some p => if (s.elapse dt).reached p.expiry then (s.elapse dt).settleTryAgain p else s.elapse dt
      | none => s.elapse dt) = _
    rw [show (s.elapse dt).findPending c n = some p from found]
    simp only [if_pos reached, State.settleTryAgain, key.1, key.2, erased]
    rfl

end

section
/-! SUPPORT. Seats and contests (R20, R74 to R98): the seat decision by the seat's state, the release of a seat and of a binding, and the
verdicts that end a contest. -/

namespace Sys2Proof.Machine

/-! ## The seat decision (R74, R76, R77, R86) -/

theorem State.serialElsewhere_iff (s : State) (serial : Serial) (n : Seat) :
    s.serialElsewhere serial n = true ↔
      (∃ y ∈ s.sv.seats, y.number ≠ n ∧ ∃ b, y.state.holder = some b ∧ b.serial = serial) ∨
        ∃ a ∈ s.sv.authority, a.seat ≠ n ∧ a.challenger.serial = serial := by
  simp only [State.serialElsewhere, Bool.or_eq_true, List.any_eq_true, Bool.and_eq_true, bne_iff_ne, Option.any_eq_true,
    beq_iff_eq]

section
variable {s : State} {n : Seat} {x : SeatRecord} (found : s.findSeat n = some x) (h : Holder)
include found

theorem State.decideSeat_of_blocked (blocked : x.state = .blocked) : s.decideSeat n h = (s, .refusedBlocked) := by
  rw [State.decideSeat, found]
  exact if_pos blocked

theorem State.decideSeat_of_elsewhere (open_ : x.state ≠ .blocked) (elsewhere : s.serialElsewhere h.serial n = true) :
    s.decideSeat n h = (s, .refusedContest) := by
  rw [State.decideSeat, found]
  simp only [if_neg open_, if_pos elsewhere]

theorem State.decideSeat_of_free (free : ¬ s.serialElsewhere h.serial n = true) :
    s.decideSeat n h =
      match x.state with
      | .blocked => (s, .refusedBlocked)
      | .contested _ _ => (s, .contestBusy)
      | .vacant => s.bindSeat n h
      | .bound st b =>
        if b.serial = h.serial ∧ b.client = h.client then s.refreshSeat n st h else s.raiseContest n st b h := by
  rw [State.decideSeat, found]
  simp only [if_neg free]
  cases state : x.state <;> simp

theorem State.decideSeat_of_bound (free : ¬ s.serialElsewhere h.serial n = true) {st : BoundState} {b : Holder}
    (bound : x.state = .bound st b) :
    s.decideSeat n h =
      if b.serial = h.serial ∧ b.client = h.client then s.refreshSeat n st h else s.raiseContest n st b h := by
  rw [State.decideSeat_of_free found h free, bound]

end

/-- Two changes of one seat are one change. -/
theorem State.updateSeat_updateSeat (s : State) (n : Seat) {f g : SeatRecord → SeatRecord} (number : ∀ r, (f r).number = r.number) :
    (s.updateSeat n f).updateSeat n g = s.updateSeat n (g ∘ f) := by
  simp only [State.updateSeat, State.setSv_sv, State.setSv_setSv, List.map_map]
  refine congrArg (fun seats => s.setSv { s.sv with seats := seats }) (List.map_congr_left fun r _ => ?_)
  by_cases same : r.number = n <;> simp [same, number]

theorem State.present_updateSeat (s : State) (n : Seat) (f : SeatRecord → SeatRecord) (c : ClientId) :
    (s.updateSeat n f).present c = s.present c := rfl

theorem authorityTime_eq : seconds authoritySeconds = 100000000 := by decide

/-! ## Releases (R20, R80) -/

theorem State.releaseBinding_of_bound {s : State} {c : ClientId} {e : ClientEntry} {n : Serial} {seat : Seat}
    (found : s.findEntry c = some e) (bound : ∃ b ∈ e.bindings, b.serial = n ∧ b.seat = seat) :
    s.releaseBinding c n seat =
      (s.updateEntry c (fun e =>
        { e with bindings := e.bindings.filter (fun b => !(b.serial == n && b.seat == seat)) })).removeIfInactive c := by
  have names : e.bindings.any (fun b => b.serial == n && b.seat == seat) = true := by simpa using bound
  rw [State.releaseBinding, found]
  exact if_pos names

theorem State.removeIfInactive_of_active {s : State} {c : ClientId} {e : ClientEntry} (found : s.findEntry c = some e)
    (active : ¬ s.inactive e = true) : s.removeIfInactive c = s := by
  rw [State.removeIfInactive, found]
  exact if_neg active

theorem State.removeIfInactive_of_inactive {s : State} {c : ClientId} {e : ClientEntry} (found : s.findEntry c = some e)
    (inactive : s.inactive e = true) : s.removeIfInactive c = s.dropEntry c := by
  rw [State.removeIfInactive, found]
  exact if_pos inactive

theorem State.expireHold_of_held {s : State} {n : Seat} {x : SeatRecord} {h : Holder} (found : s.findSeat n = some x)
    (held : x.state = .bound .held h) (late : x.heldSince + 10000000 * s.par.holdSeconds ≤ s.now) :
    s.expireHold n = (s.updateSeat n SeatRecord.vacated).releaseSeat h n := by
  have reached : s.reached (x.heldSince + seconds s.par.holdSeconds) = true := (State.reached_iff _ _).mpr late
  rw [State.expireHold, found]
  simp only [held, if_pos reached]

theorem State.expireHold_of_other {s : State} {n : Seat} {x : SeatRecord} (found : s.findSeat n = some x)
    (other : (∀ h, x.state ≠ .bound .held h) ∨ s.now < x.heldSince + 10000000 * s.par.holdSeconds) : s.expireHold n = s := by
  rw [State.expireHold, found]
  dsimp only
  split
  next h held =>
    obtain unheld | early := other
    · exact absurd held (unheld h)
    · exact if_neg fun reached => absurd ((State.reached_iff _ _).mp reached) (Nat.not_le.mpr early)
  next => rfl

/-! ## Verdicts (R93 to R98) -/

/-- The challenger is told, through its origin or directly when that is this node (R98). -/
def State.told (s : State) (b : Holder) (n : Seat) (code : TokenCode) : State :=
  if s.sl.ownAddress = some b.origin then s.deliverUnsolicited b.client b.serial n code b.origin
  else s.send b.origin (.tokenResult b.client b.serial n code)

theorem State.tellChallenger_eq (s : State) (a : AuthorityEntry) (code : TokenCode) :
    s.tellChallenger a code = s.told a.challenger a.seat code := by
  simp only [State.tellChallenger, State.told, State.isOwn, beq_iff_eq]

theorem State.told_of_sl {s w : State} (sl : w.sl = s.sl) (b : Holder) (n : Seat) (code : TokenCode) :
    w.told b n code =
      if s.sl.ownAddress = some b.origin then w.deliverUnsolicited b.client b.serial n code b.origin
      else w.send b.origin (.tokenResult b.client b.serial n code) := by
  rw [State.told, sl]

theorem SeatRecord.unblocked_number (r : SeatRecord) : r.unblocked.number = r.number := by
  unfold SeatRecord.unblocked
  split <;> rfl

theorem State.told_sameSeats (s : State) (b : Holder) (n : Seat) (code : TokenCode) : s.SameSeats (s.told b n code) := by
  unfold State.told
  split
  · exact .of_sv (by simp)
  · exact s.send_sameSeats _ _

@[simp] theorem State.told_sl (s : State) (b : Holder) (n : Seat) (code : TokenCode) : (s.told b n code).sl = s.sl := by
  unfold State.told
  split <;> simp

@[simp] theorem State.told_now (s : State) (b : Holder) (n : Seat) (code : TokenCode) : (s.told b n code).now = s.now := by
  unfold State.told
  split <;> simp

/-- A contested seat back in its prior state, its authority entry gone (R93). -/
def State.restoredSeat (s : State) (n : Seat) : State := (s.updateSeat n SeatRecord.restored).eraseAuthority n

theorem State.releaseIncumbent_of_contested {s : State} {n : Seat} {x : SeatRecord} {prior : BoundState} {h : Holder}
    (found : s.findSeat n = some x) (contested : x.state = .contested prior h) : s.releaseIncumbent n = s.releaseSeat h n := by
  have holder : (s.findSeat n).bind (fun r => r.state.holder) = some h := by rw [found, Option.bind_some, contested]; rfl
  simp only [State.releaseIncumbent, holder]

section
variable {s : State} {n : Seat} {a : AuthorityEntry} {x : SeatRecord} {prior : BoundState} {h : Holder}
  (listed : s.findAuthority n = some a) (found : s.findSeat n = some x) (contested : x.state = .contested prior h)
include listed found contested

theorem State.applyKeep_eq :
    let told := (s.restoredSeat n).told a.challenger n .refusedContest
    s.applyKeep a = told.expireHold n ∧ told.findSeat n = some { x with state := .bound prior h } := by
  intro told
  have seat := State.findAuthority_seat listed
  have restored : x.restored = { x with state := .bound prior h } := by simp only [SeatRecord.restored, contested]
  refine ⟨?_, ?_⟩
  · simp only [State.applyKeep, seat, State.tellChallenger_eq]
    rfl
  · rw [((s.restoredSeat n).told_sameSeats a.challenger n .refusedContest).findSeat n]
    have changed := State.findSeat_updateSeat_self s n SeatRecord.restored_number
    rw [found] at changed
    exact changed.trans (congrArg some restored)

theorem State.applyKeep_of_staying (staying : prior ≠ .held ∨ s.now < x.heldSince + 10000000 * s.par.holdSeconds) :
    s.applyKeep a = (s.restoredSeat n).told a.challenger n .refusedContest := by
  obtain ⟨applied, back⟩ := State.applyKeep_eq listed found contested
  rw [applied]
  refine State.expireHold_of_other back (staying.imp (fun other h held => ?_) fun early => ?_)
  · exact other (SeatState.bound.inj held).1
  · rw [State.told_now, State.par_eq_of_sl (State.told_sl ..)]
    exact early

theorem State.applyKeep_of_late (held : prior = .held) (late : x.heldSince + 10000000 * s.par.holdSeconds ≤ s.now) :
    s.applyKeep a =
      (((s.restoredSeat n).told a.challenger n .refusedContest).updateSeat n SeatRecord.vacated).releaseSeat h n := by
  obtain ⟨applied, back⟩ := State.applyKeep_eq listed found contested
  rw [applied]
  refine State.expireHold_of_held back (by rw [held]) ?_
  rw [State.told_now, State.par_eq_of_sl (State.told_sl ..)]
  exact late

theorem State.applyReplace_eq :
    s.applyReplace a =
      (((s.releaseSeat h n).updateSeat n (fun y =>
        { y with state := .bound .held a.challenger, heldSince := s.now })).eraseAuthority n).told a.challenger n .held := by
  have now : (s.releaseSeat h n).now = s.now := by simp [State.releaseSeat]
  simp only [State.applyReplace, State.findAuthority_seat listed, State.tellChallenger_eq,
    State.releaseIncumbent_of_contested found contested, now]

theorem State.applyBlock_eq :
    s.applyBlock a =
      (((s.releaseSeat h n).updateSeat n (fun y => { y with state := .blocked })).eraseAuthority n).told a.challenger n
        .refusedBlocked := by
  simp only [State.applyBlock, State.findAuthority_seat listed, State.tellChallenger_eq,
    State.releaseIncumbent_of_contested found contested]

end

end Sys2Proof.Machine

open Sys2Proof Sys2Proof.Machine

/-- Settles O22: the decision by the seat's state, once no other seat or contest names the serial. -/
theorem seatDecisionFollowsItsTable : Obligations.SeatDecisionFollowsItsTable := by
  refine ⟨fun s n h => ⟨fun none => ?_, fun x found => ⟨fun blocked => ?_, fun open_ => ⟨fun elsewhere => ?_,
    fun seats contests => ?_⟩⟩⟩, fun s c => ⟨fun e found => ?_, fun g absent found => ?_, fun absent unseen => ?_⟩⟩
  · rw [State.decideSeat, none]
  · exact State.decideSeat_of_blocked found h blocked
  · exact State.decideSeat_of_elsewhere found h open_ ((s.serialElsewhere_iff _ _).mpr elsewhere)
  · have free : ¬ s.serialElsewhere h.serial n = true := mt (s.serialElsewhere_iff _ _).mp (not_or.mpr ⟨seats, contests⟩)
    have decided := State.decideSeat_of_free found h free
    refine ⟨fun p b contested => ?_, fun vacant away => ?_, fun vacant here => ?_, fun st b bound => ⟨fun serial client here => ?_,
      fun serial client away => ?_, fun other full => ?_, fun other room => ?_⟩⟩
    · rw [decided, contested]
    · rw [decided, vacant]
      exact if_neg (by rw [away]; decide)
    · rw [decided, vacant]
      exact if_pos here
    all_goals rw [State.decideSeat_of_bound found h free bound]
    · rw [if_pos ⟨serial, client⟩, State.refreshSeat, State.present_updateSeat, if_pos here,
        State.updateSeat_updateSeat s n (f := fun r => { r with state := .bound st h }) fun _ => rfl]
      rfl
    · rw [if_pos ⟨serial, client⟩, State.refreshSeat, State.present_updateSeat, if_neg (by rw [away]; decide)]
    · rw [if_neg other]
      exact if_pos full
    · intro reason u
      rw [if_neg other, State.raiseContest, authorityPlaces, if_neg (Nat.not_le.mpr room), authorityTime_eq]
      rfl
  · rw [State.present_iff, State.signalOf_of_entry found]
    simp
  · rw [State.present_iff, State.signalOf_of_sighting absent, found]
    simp
  · rw [State.present, State.signalOf_of_sighting absent, unseen]
    rfl

/-- Settles O25: the release of a held seat past its time, and the inactivity test that a lost binding brings with it. -/
theorem holdExpiryReleasesTheSeat : Obligations.HoldExpiryReleasesTheSeat := by
  intro s dt
  refine ⟨fun n x h found held late => ?_, fun source c n seat e started carried found bound => ?_⟩
  · exact congrArg Host.Outcome.next (State.expireHold_of_held (s := s.elapse dt) found held late)
  · intro u kept v
    have next : exec (.seatReleased dt) s = .next (v.removeIfInactive c) := by
      rw [exec_seatReleased dt carried, State.onFrame_of_started started]
      exact congrArg Host.Outcome.next (State.releaseBinding_of_bound (s := u) found bound)
    have left : v.findEntry c = some { e with bindings := kept } := by
      have changed := State.findEntry_updateEntry_self u c
        (f := fun e => { e with bindings := e.bindings.filter (fun b => !(b.serial == n && b.seat == seat)) }) fun _ => rfl
      rw [show u.findEntry c = some e from found] at changed
      exact changed
    refine ⟨fun recent within => ?_, fun empty counted late => ?_⟩
    · have active : ¬ v.inactive { e with bindings := kept } = true := by
        rw [State.inactive_iff]
        rintro ⟨-, due⟩
        dsimp only at due
        split at due
        next none => exact absurd due (Nat.not_le.mpr (recent.resolve_left (not_not.mpr none)))
        next => exact absurd due (Nat.not_le.mpr within)
      rw [next, State.removeIfInactive_of_active left active]
    · have inactive : v.inactive { e with bindings := kept } = true :=
        (State.inactive_iff _ _).mpr ⟨counted, by rw [if_pos empty]; exact late⟩
      rw [next, State.removeIfInactive_of_inactive left inactive]
      rfl

/-- Settles O26: resend at the first expiry, KEEP at the second; a KEEP's hold is tested once the challenger is told. -/
theorem authorityTimerResendsThenDefaults : Obligations.AuthorityTimerResendsThenDefaults := by
  refine ⟨fun s dt n a x prior h listed late found contested => ?_, fun s n a x prior h listed found contested => ?_⟩
  · intro u
    have reached : u.reached a.expiry = true := (State.reached_iff _ _).mpr late
    have next : exec (.authorityTimerExpiry dt n) s =
        .next
          (if a.attempts = 1 then
            let a' : AuthorityEntry := { a with attempts := 2, expiry := u.now + seconds authoritySeconds }
            (u.setSv { u.sv with authority := u.sv.authority.map (fun x => if x.seat == n then a' else x) }).query a' h
          else (u.applyKeep a).armNotice .contestDefaulted n) := by
      have held : (s.elapse dt).findAuthority n = some a := listed
      have holder : (s.findSeat n).bind (fun r => r.state.holder) = some h := by
        rw [found, Option.bind_some, contested]
        rfl
      have due : ¬ (!(s.elapse dt).reached a.expiry) = true := by rw [show (s.elapse dt).reached a.expiry = true from reached]; decide
      show execAuthorityTimerExpiry dt n s = _
      simp only [execAuthorityTimerExpiry]
      rw [held]
      refine congrArg Host.Outcome.next ((if_neg due).trans (if_congr Iff.rfl ?_ rfl))
      split
      next incumbent known => rw [Option.some.inj (known.symm.trans holder)]
      next unknown => exact absurd (unknown.symm.trans holder) nofun
    refine ⟨fun first => ?_, fun second => ?_⟩
    · rw [next, if_pos first, authorityTime_eq, State.query]
      simp only [State.findAuthority_seat listed]
      rfl
    · rw [next, if_neg (by rw [second]; decide)]
  · intro b back told
    have restored : x.restored = { x with state := .bound prior h } := by simp only [SeatRecord.restored, contested]
    exact ⟨restored, State.applyKeep_of_staying listed found contested, State.applyKeep_of_late listed found contested⟩

/-- Settles O27: each verdict through its equation; a verdict of another source meets no entry. -/
theorem verdictsEndTheContest : Obligations.VerdictsEndTheContest := by
  intro s dt n a x prior h started u b tell
  have answered {i : Instr} {act : State → State} (command : exec i s = s.onFrame dt .seatValidator act) :
      exec i s = .next (act u) := command.trans (State.onFrame_of_started started dt .seatValidator act)
  have settled {i : Instr} {apply : State → AuthorityEntry → State}
      (command : exec i s = s.onFrame dt .seatValidator (fun u => u.settle 30 n apply))
      (listed : s.findAuthority n = some a) : exec i s = .next (apply u a) := by
    rw [answered command, State.settle, show u.findAuthority n = some a from listed]
    rfl
  have unlisted {i : Instr} {apply : State → AuthorityEntry → State}
      (command : exec i s = s.onFrame dt .seatValidator (fun u => u.settle 30 n apply))
      (absent : s.findAuthority n = none) : exec i s = .next u := by
    rw [answered command, State.settle, show u.findAuthority n = none from absent]
    rfl
  refine ⟨fun absent => ⟨fun carried => unlisted (exec_answerKeep dt carried) absent,
    fun carried => unlisted (exec_answerReplace dt carried) absent,
    fun carried => unlisted (exec_answerBlock dt carried) absent⟩, fun listed found contested => ⟨fun carried staying => ?_,
    fun carried held late => ?_, fun carried => ?_, fun carried => ?_⟩, fun carried found blocked => ?_, fun carried unblocked => ?_,
    fun source v c foreign command carried => ?_⟩
  · rw [settled (exec_answerKeep dt carried) listed, State.applyKeep_of_staying (s := u) listed found contested staying]
    rfl
  · rw [settled (exec_answerKeep dt carried) listed, State.applyKeep_of_late (s := u) listed found contested held late]
    rfl
  · rw [settled (exec_answerReplace dt carried) listed, State.applyReplace_eq (s := u) listed found contested]
    exact congrArg Host.Outcome.next (State.told_of_sl (by simp [State.eraseAuthority, State.updateSeat, u]) ..)
  · rw [settled (exec_answerBlock dt carried) listed, State.applyBlock_eq (s := u) listed found contested]
    exact congrArg Host.Outcome.next (State.told_of_sl (by simp [State.eraseAuthority, State.updateSeat, u]) ..)
  · refine ⟨u.updateSeat n SeatRecord.unblocked, answered (exec_answerUnblock dt carried), rfl, ?_, fun m other => ?_⟩
    · have changed := State.findSeat_updateSeat_self u n SeatRecord.unblocked_number
      rw [show u.findSeat n = some x from found] at changed
      exact changed.trans (congrArg some (if_pos blocked))
    · exact State.findSeat_updateSeat_other u SeatRecord.unblocked_number other
  · have same : u.updateSeat n SeatRecord.unblocked = u := by
      refine congrArg (fun seats => u.setSv { u.sv with seats := seats }) (map_of_fixed fun y held => ?_)
      split
      next named => exact if_neg (unblocked y held (beq_iff_eq.mp named))
      next => rfl
    exact (answered (exec_answerUnblock dt carried)).trans (congrArg Host.Outcome.next same)
  · have discarded (apply : State → AuthorityEntry → State) : u.settle source n apply = u := if_neg foreign
    cases v
    case keep =>
      obtain rfl : Instr.authorityAnswerKeep dt = c := by simpa [Message.command] using command
      exact (answered (exec_answerKeep dt carried)).trans (congrArg Host.Outcome.next (discarded _))
    case replace =>
      obtain rfl : Instr.authorityAnswerReplace dt = c := by simpa [Message.command] using command
      exact (answered (exec_answerReplace dt carried)).trans (congrArg Host.Outcome.next (discarded _))
    case block =>
      obtain rfl : Instr.authorityAnswerBlock dt = c := by simpa [Message.command] using command
      exact (answered (exec_answerBlock dt carried)).trans (congrArg Host.Outcome.next (discarded _))
    case unblock =>
      obtain rfl : Instr.authorityAnswerUnblock dt = c := by simpa [Message.command] using command
      exact (answered (exec_answerUnblock dt carried)).trans (congrArg Host.Outcome.next (if_neg foreign))

end

section
/-! SUPPORT. The close of a match (R20, R82 to R84): the answers to the pending tokens, and the entries that the loss of their bindings
leaves past their inactivity deadline. -/

namespace Sys2Proof.Machine

/-! ## The answers to the pending tokens (R83, R84) -/

/-- Each pending token answered in turn. -/
def State.replied (s : State) (tokens : List PendingToken) (code : TokenCode) : State :=
  tokens.foldl (fun s p => s.handReply (.tokenReply p.client code p.token.seat)) s

@[simp] theorem State.replied_frame (s : State) (tokens : List PendingToken) (code : TokenCode) :
    (s.replied tokens code).now = s.now ∧ (s.replied tokens code).freeCount = s.freeCount ∧ (s.replied tokens code).au = s.au :=
  ⟨foldl_frame State.now (fun _ _ => by simp) tokens s, foldl_frame State.freeCount (fun _ _ => by simp) tokens s,
    foldl_frame State.au (fun _ _ => by simp) tokens s⟩

theorem State.answerPending_eq (s : State) {code : TokenCode} (unbound : code.binds = false) (unrefused : code.refused = false) :
    s.answerPending code = (s.setSv { s.sv with pendingTokens := [] }).replied s.sv.pendingTokens code := by
  have each : (fun (s : State) (p : PendingToken) => s.deliver p.client p.token.serial p.token.seat code s.own) =
      fun s p => s.handReply (.tokenReply p.client code p.token.seat) :=
    funext fun s => funext fun p => State.deliver_of_other s p.client p.token.serial p.token.seat s.own unbound unrefused
  rw [State.answerPending, State.replied, each]

/-! ## Inactive entries removed in turn (R12, R20) -/

/-- An entry removed for inactivity, with its streams lowered and its client told (R12, R13). -/
def State.dropped (s : State) (e : ClientEntry) : State := (s.without e.id e).handReply (.dropClient e.id)

@[simp] theorem State.dropped_now (s : State) (e : ClientEntry) : (s.dropped e).now = s.now := by
  simp [State.dropped, State.without]

theorem State.findEntry_dropped_other (s : State) (e : ClientEntry) {d : ClientId} (other : d ≠ e.id) :
    (s.dropped e).findEntry d = s.findEntry d := by
  rw [State.dropped, State.handReply_findEntry]
  exact find_erase_other (fun x : ClientEntry => x.id) other s.au.clients

/-- `due` says of a client whether its entry is inactive, and if so which streams it leaves. -/
def State.settledBy (s : State) (due : ClientId → Option ClientEntry) (c : ClientId) : Prop :=
  match due c with
  | some e =>
    e.id = c ∧ ∃ x, s.findEntry c = some x ∧ s.inactive x = true ∧ x.subscriptions = e.subscriptions ∧ x.subscriptions.Nodup
  | none => ∀ x, s.findEntry c = some x → ¬ s.inactive x = true

theorem State.settledBy_congr {s t : State} {due : ClientId → Option ClientEntry} {c : ClientId} (now : t.now = s.now)
    (entry : t.findEntry c = s.findEntry c) (h : s.settledBy due c) : t.settledBy due c := by
  have inactive (x : ClientEntry) : t.inactive x = s.inactive x := by simp only [State.inactive, State.reached, now]
  simpa only [State.settledBy, entry, inactive] using h

theorem State.without_congr (s : State) (c : ClientId) {e x : ClientEntry} (streams : x.subscriptions = e.subscriptions) :
    s.without c x = s.without c e := by
  rw [State.without, State.without, streams]

/-- Of clients taken one after the other those that are due go, and no removal makes another one due. -/
theorem State.foldl_removeIfInactive {due : ClientId → Option ClientEntry} {l : List ClientId} (apart : l.Nodup) {s : State}
    (settled : ∀ c ∈ l, s.settledBy due c) : l.foldl State.removeIfInactive s = (l.filterMap due).foldl State.dropped s := by
  induction l generalizing s with
  | nil => rfl
  | cons c l ih =>
    obtain ⟨new, apart⟩ := List.nodup_cons.mp apart
    have first := settled c List.mem_cons_self
    have rest : ∀ d ∈ l, s.settledBy due d := fun d hd => settled d (List.mem_cons_of_mem c hd)
    rw [State.settledBy] at first
    cases decided : due c with
    | none =>
      rw [decided] at first
      have stays : s.removeIfInactive c = s := by
        cases found : s.findEntry c with
        | none => rw [State.removeIfInactive, found]
        | some x => exact State.removeIfInactive_of_active found (first x found)
      rw [List.foldl_cons, stays, List.filterMap_cons_none decided, ih apart rest]
    | some e =>
      rw [decided] at first
      obtain ⟨id, x, found, inactive, streams, once⟩ := first
      have goes : s.removeIfInactive c = s.dropped e := by
        rw [State.removeIfInactive_of_inactive found inactive, State.dropEntry,
          State.removeEntry_of_counted found ((State.inactive_iff _ _).mp inactive).1 once, State.dropped, id,
          State.without_congr s c streams]
      have others : ∀ d ∈ l, (s.dropped e).settledBy due d := fun d hd =>
        State.settledBy_congr (s.dropped_now e) (s.findEntry_dropped_other e fun same => new (id ▸ same ▸ hd)) (rest d hd)
      rw [List.foldl_cons, goes, List.filterMap_cons_some decided, List.foldl_cons, ih apart others]

/-! ## The close (R83) -/

/-- The state in which the emptied entries are tested for inactivity. -/
def State.emptied (s : State) : State :=
  (s.setAu { s.au with clients := s.au.clients.map (fun e => { e with bindings := [] }) }).drawn

theorem State.emptyBindings_eq (s : State) :
    s.emptyBindings =
      (s.freeOrder ((s.au.clients.filter (fun e => !e.bindings.isEmpty)).map (·.id))).foldl State.removeIfInactive s.emptied :=
  rfl

theorem State.findEntry_emptied (s : State) (c : ClientId) :
    s.emptied.findEntry c = (s.findEntry c).map (fun e => { e with bindings := [] }) := by
  show (s.au.clients.map (fun e => { e with bindings := [] })).find? (fun e => e.id == c) = _
  rw [List.find?_map]
  rfl

/-- The entry is counted, loses bindings, and has been unheard for 60 s. -/
def State.lapses (s : State) (e : ClientEntry) : Bool :=
  e.state.counted && decide (e.bindings ≠ [] ∧ e.lastHeard + 600000000 ≤ s.now)

theorem State.inactive_emptied (s : State) (e : ClientEntry) :
    s.emptied.inactive { e with bindings := [] } = true ↔ e.state.counted = true ∧ e.lastHeard + 600000000 ≤ s.now :=
  State.inactive_iff _ _

/-- The entries that lapse go, in an order that is a permutation of theirs in the table. -/
theorem State.emptyBindings_drops {s : State} (apart : (s.au.clients.map (·.id)).Nodup)
    (once : ∀ e ∈ s.au.clients, e.subscriptions.Nodup) :
    ∃ order : List ClientEntry, order.Perm (s.au.clients.filter s.lapses) ∧
      s.emptyBindings = order.foldl State.dropped s.emptied := by
  let kept := (s.au.clients.filter (fun e => !e.bindings.isEmpty)).map (·.id)
  let due (c : ClientId) : Option ClientEntry := (s.findEntry c).filter s.lapses
  have drawn : (s.freeOrder kept).Perm kept := sortBy_perm _ _
  have keptApart : kept.Nodup := (List.filter_sublist.map _).nodup apart
  have settled : ∀ c ∈ s.freeOrder kept, s.emptied.settledBy due c := by
    intro c member
    obtain ⟨e, held, rfl⟩ := List.mem_map.mp (drawn.mem_iff.mp member)
    obtain ⟨held, bound⟩ := List.mem_filter.mp held
    have found := State.findEntry_of_mem apart held
    have entry : s.emptied.findEntry e.id = some { e with bindings := [] } := by rw [State.findEntry_emptied, found]; rfl
    have bound : e.bindings ≠ [] := by simpa using bound
    have isDue : due e.id = (some e).filter s.lapses := congrArg (Option.filter s.lapses) found
    rw [State.settledBy, isDue, Option.filter_some]
    by_cases lapse : s.lapses e = true
    · have late : e.state.counted = true ∧ e.lastHeard + 600000000 ≤ s.now := by
        simpa [State.lapses, bound] using lapse
      rw [if_pos lapse]
      exact ⟨rfl, _, entry, (s.inactive_emptied e).mpr late, rfl, once e held⟩
    · rw [if_neg lapse]
      intro x same inactive
      obtain rfl := Option.some.inj (entry.symm.trans same)
      obtain ⟨counted, late⟩ := (s.inactive_emptied e).mp inactive
      exact lapse (by simp [State.lapses, counted, bound, late])
  refine ⟨(s.freeOrder kept).filterMap due, ?_, ?_⟩
  · refine (drawn.filterMap due).trans (List.Perm.of_eq ?_)
    have named : ∀ e ∈ s.au.clients.filter (fun e => !e.bindings.isEmpty), due e.id = Option.guard s.lapses e := fun e held => by
      have found := State.findEntry_of_mem apart (List.mem_filter.mp held).1
      simp only [due, found, Option.filter_some, Option.guard]
    have bound : ∀ e ∈ s.au.clients, (s.lapses e && !e.bindings.isEmpty) = s.lapses e := fun e _ => by
      cases none : e.bindings <;> simp [State.lapses, none]
    calc kept.filterMap due
        = (s.au.clients.filter (fun e => !e.bindings.isEmpty)).filterMap (fun e => due e.id) := List.filterMap_map ..
      _ = (s.au.clients.filter (fun e => !e.bindings.isEmpty)).filterMap (Option.guard s.lapses) :=
          List.filterMap_congr named
      _ = (s.au.clients.filter (fun e => !e.bindings.isEmpty)).filter s.lapses := congrFun List.filterMap_eq_filter _
      _ = s.au.clients.filter (fun e => s.lapses e && !e.bindings.isEmpty) := List.filter_filter ..
      _ = s.au.clients.filter s.lapses := List.filter_congr bound
  · rw [State.emptyBindings_eq]
    exact State.foldl_removeIfInactive (drawn.nodup_iff.mpr keptApart) settled

end Sys2Proof.Machine

open Sys2Proof Sys2Proof.Machine

/-- Settles O28: the replies of a close, and the entries that lapse once their bindings are gone. -/
theorem matchCloseClearsSeats : Obligations.MatchCloseClearsSeats := by
  intro s dt started u cleared answered closed dropped
  have next {i : Instr} {act : State → State} (command : exec i s = s.onFrame dt .seatValidator act) :
      exec i s = .next (act u) := command.trans (State.onFrame_of_started started dt .seatValidator act)
  let w := answered (cleared .closed) .matchClosed
  have replied : ((u.setSv { u.sv with matchState := .closed }).clearSeats.answerPending .matchClosed) = w :=
    State.answerPending_eq _ rfl rfl
  have au : w.au = s.au := (State.replied_frame _ _ _).2.2
  have now : w.now = s.now + dt := (State.replied_frame _ _ _).1
  have empty : w.emptied = closed := by
    rw [State.emptied, au]
  have close (carried : s.carries .seatValidator 30 (.matchState .closed)) :
      exec (.matchStateClosed dt) s = .next w.emptyBindings := by
    rw [next (exec_matchStateClosed dt carried), State.closeMatch]
    exact congrArg (fun x : State => Host.Outcome.next x.emptyBindings) replied
  refine ⟨fun carried => next (exec_matchStateOpen dt carried), fun carried => ?_, fun carried heard => ?_,
    fun carried apart once => ?_⟩
  · rw [next (exec_blockResetTicket dt carried)]
    exact congrArg Host.Outcome.next (State.answerPending_eq _ rfl rfl)
  · rw [close carried, State.emptyBindings_eq]
    have stays (c : ClientId) : w.emptied.removeIfInactive c = w.emptied := by
      cases found : w.emptied.findEntry c with
      | none => rw [State.removeIfInactive, found]
      | some x =>
        rw [State.findEntry_emptied] at found
        obtain ⟨e, held, rfl⟩ := Option.map_eq_some_iff.mp found
        refine State.removeIfInactive_of_active ((State.findEntry_emptied w c).trans found) fun inactive => ?_
        have late := ((w.inactive_emptied e).mp inactive).2
        rw [now] at late
        exact absurd late (Nat.not_le.mpr (heard e (au ▸ State.findEntry_mem held)))
    rw [List.foldl_fixed' stays, empty]
  · obtain ⟨order, perm, drops⟩ := State.emptyBindings_drops (s := w) (au ▸ apart) (au ▸ once)
    refine ⟨order, ?_, ?_⟩
    · rw [au] at perm
      have lapses : w.lapses = fun e => e.state.counted && decide (e.bindings ≠ [] ∧ e.lastHeard + 600000000 ≤ s.now + dt) := by
        funext e
        rw [State.lapses, now]
      exact lapses ▸ perm
    · rw [close carried, drops, empty]
      rfl

end

section
/-! SUPPORT. Roam exchanges (R36 to R59): the decision on a claim, a grant by what it finds, the ends of an exchange, and the merge of an
awaited context. -/

namespace Sys2Proof.Machine

/-! ## The commands of roam frames (R36) -/

/-- A frame that the Roam Engine takes is of one of the six roam kinds, and its command reads that kind. -/
theorem Message.roam_command {m : Message} {dt : Time} {i : Instr} (command : m.command dt = some (.roamEngine, i)) :
    (∃ c n, m = .roamClaim c n ∧ i = .roamClaim dt) ∨ (∃ c x, m = .roamGrant c x ∧ i = .roamGrant dt) ∨
      (∃ c k n, m = .roamDeny c k n ∧ i = .roamDeny dt) ∨ (∃ c, m = .roamReturn c ∧ i = .roamReturn dt) ∨
        (∃ c w, m = .clientMoved c w ∧ i = .clientMoved dt) ∨ ∃ c x, m = .contextReply c x ∧ i = .contextReply dt := by
  unfold Message.command at command
  split at command <;> simp_all

/-- A roam frame of no node or of no client is taken and nothing else (R36). -/
theorem exec_roam_of_discarded {s : State} {dt : Time} {f : RxFrame} {m : Message} {i : Instr}
    (command : m.command dt = some (.roamEngine, i)) (oldest : s.oldestFor .roamEngine = some f) (kind : f.kind = m.kind)
    (reads : f.message = some m) (nobody : f.source = 0 ∨ 30 ≤ f.source ∨ clientAt f.payload 0 = 0) :
    exec i s = .next ((s.elapse dt).released .roamEngine) := by
  have carried : s.carries .roamEngine f.source m := ⟨f, oldest, rfl, kind, reads⟩
  have discarded (c : ClientId) (names : m.roamClient = some c) : ¬ (1 ≤ f.source ∧ f.source ≤ 29) ∨ c = 0 := by
    obtain zero | high | noClient := nobody
    · exact .inl fun ⟨low, _⟩ => absurd low (by rw [zero]; decide)
    · exact .inl fun ⟨_, low⟩ => absurd (Nat.le_trans high low) (by decide)
    · exact .inr ((RxFrame.clientAt_of_roamClient reads names).symm.trans noClient)
  obtain ⟨c, n, rfl, rfl⟩ | ⟨c, x, rfl, rfl⟩ | ⟨c, k, n, rfl, rfl⟩ | ⟨c, rfl, rfl⟩ | ⟨c, w, rfl, rfl⟩ | ⟨c, x, rfl, rfl⟩ :=
    Message.roam_command command
  · rw [exec_roamClaim dt carried, State.onRoam_of_discarded dt (discarded c rfl)]
  · rw [exec_roamGrant dt carried, State.onRoam_of_discarded dt (discarded c rfl)]
  · rw [exec_roamDeny dt carried, State.onRoam_of_discarded dt (discarded c rfl)]
  · rw [exec_roamReturn dt carried, State.onRoam_of_discarded dt (discarded c rfl)]
  · rw [exec_clientMoved dt carried, State.onRoam_of_discarded dt (discarded c rfl)]
  · rw [exec_contextReply dt carried, State.onRoam_of_discarded dt (discarded c rfl)]

/-! ## The decision on a claim (R41 to R44) -/

theorem grantTime_eq : grantTime = 30000000 := by decide

theorem roamInTime_eq : roamInTime = 20000000 := by decide

theorem State.deny_of_entry {s : State} {c : ClientId} {e : ClientEntry} (found : s.findEntry c = some e) (claimant : Station)
    (reason : DenyReason) : s.deny claimant c reason = s.send claimant (.roamDeny c reason e.score) := by
  rw [State.deny, found]
  rfl

theorem State.decideClaim_of_associated {s : State} {c : ClientId} {e : ClientEntry} (found : s.findEntry c = some e)
    (associated : e.state = .associated) (claimant : Station) (n : Nat) :
    s.decideClaim claimant c n =
      if 4 ≤ s.au.clients.countP ClientEntry.isRoamOut then s.send claimant (.roamDeny c .busy e.score)
      else if e.holdDown.isSome then s.send claimant (.roamDeny c .hold e.score)
      else if n < s.scoreOf e + s.par.margin then (s.rescore c).send claimant (.roamDeny c .score (s.scoreOf e))
      else (s.rescore c).grant claimant e := by
  have rescored : (s.rescore c).findEntry c = some { e with score := s.scoreOf e } := by
    rw [State.findEntry_rescore, found]
    rfl
  rw [State.decideClaim, found]
  simp only [associated, State.deny_of_entry found, State.deny_of_entry rescored, List.countP_eq_length_filter] <;> rfl

/-! ## A grant without an entry (R26, R47) -/

theorem putBy_clients_find {l : List ClientEntry} {e : ClientEntry} (absent : ∀ x ∈ l, x.id ≠ e.id) (d : ClientId) :
    (putBy (fun x => x.id.toNat) e l).find? (fun x => x.id == d) = if d = e.id then some e else l.find? (fun x => x.id == d) := by
  split
  next same =>
    subst same
    exact find_putBy_new (by simp) fun y hy => by simpa using absent y hy
  next other =>
    exact find_putBy_other (by simpa using fun same => other same.symm) fun y hy same =>
      absurd (BitVec.eq_of_toNat_eq same) (absent y hy)

theorem State.decideGrant_of_entry {s : State} {c : ClientId} {e : ClientEntry} (found : s.findEntry c = some e) (source : Station)
    (x : Context) :
    s.decideGrant source c x =
      match e.state with
      | .reserved peer _ => if peer = source then s.takeGrant source c x else s.send source (.roamReturn c)
      | .roamIn peer _ => if peer = source then s else s.send source (.roamReturn c)
      | .roamOut .. => s.mergeGrant source e x
      | .associated => s.mergeGrant source e x := by
  rw [State.decideGrant, found] <;> rfl

/-! ## The merge of a context (R59) -/

theorem mergeBindings_cons (l : List Binding) (b : Binding) (more : List Binding) :
    mergeBindings l (b :: more) =
      mergeBindings (if 4 ≤ l.length ∨ l.any (fun x => x.serial == b.serial) then l else l ++ [b]) more := rfl

theorem mergeBindings_of_full {l : List Binding} (full : 4 ≤ l.length) (more : List Binding) : mergeBindings l more = l := by
  induction more with
  | nil => rfl
  | cons b more ih => rw [mergeBindings_cons, if_pos (.inl full), ih]

theorem ClientEntry.awaits_of_wait {e : ClientEntry} {source : Station} {t : Time} (associated : e.state = .associated)
    (wait : e.contextWait = some { oldStation := source, expiry := t }) : e.awaits source = true := by
  simp [ClientEntry.awaits, associated, wait]

theorem State.takeContext_of_awaited {s : State} {c : ClientId} {e : ClientEntry} {source : Station}
    (found : s.findEntry c = some e) (awaited : e.awaits source = true) (x : Option Context) :
    s.takeContext source c x =
      match x with
      | some x => s.mergeContext c x
      | none => s.endContextWait c := by
  unfold State.takeContext
  rw [found]
  exact if_pos awaited

theorem State.takeContext_of_unawaited {s : State} {c : ClientId} {source : Station}
    (unawaited : ∀ e, s.findEntry c = some e → e.awaits source = false) (x : Option Context) : s.takeContext source c x = s := by
  unfold State.takeContext
  split
  next e found => rw [unawaited e found, if_neg Bool.false_ne_true]
  next => rfl

end Sys2Proof.Machine

open Sys2Proof Sys2Proof.Machine

/-- Settles O29: the reasons of a denial in their order, by the state of the client's entry. -/
theorem claimIsDeniedOrGranted : Obligations.ClaimIsDeniedOrGranted := by
  refine ⟨fun s dt source c n started carried low high client => ?_,
    fun s dt f m i command oldest kind reads nobody => exec_roam_of_discarded command oldest kind reads nobody⟩
  intro u denied
  have next : exec (.roamClaim dt) s = .next (u.decideClaim source c n) := by
    rw [exec_roamClaim dt carried, State.onRoam_of_started started dt ⟨low, high⟩ client]
  have answered {v : State} {reason : DenyReason} {score : Nat}
      (answer : u.decideClaim source c n = v.send source (.roamDeny c reason score)) : denied v reason score :=
    next.trans (congrArg Host.Outcome.next answer)
  refine ⟨fun absent => answered ?_, fun e found => ?_⟩
  · have missing : u.findEntry c = none := absent
    rw [State.decideClaim, missing]
    simp only [State.deny, missing]
    rfl
  · have held : u.findEntry c = some e := found
    have id := State.findEntry_id found
    refine ⟨fun a x waits => answered ?_, fun a x out => answered ?_, fun associated => ?_⟩
    · rw [State.decideClaim, held]
      obtain waits | waits := waits <;> simp only [waits, State.deny_of_entry held]
    · rw [State.decideClaim, held]
      simp only [out, State.deny_of_entry held]
    · have decided := State.decideClaim_of_associated held associated source n
      have score : u.scoreOf e = servingScore e.signal s.ru.occupancy s.au.clients.length (s.home c) := by
        rw [State.scoreOf, id]
        rfl
      refine ⟨fun full => answered (decided.trans (if_pos full)), fun room => ?_⟩
      rw [if_neg (Nat.not_le.mpr room : ¬ 4 ≤ u.au.clients.countP ClientEntry.isRoamOut)] at decided
      refine ⟨fun held => answered (decided.trans (if_pos (Option.isSome_iff_ne_none.mpr held))), fun free => ?_⟩
      rw [free, if_neg (by simp), score] at decided
      intro own
      refine ⟨fun weaker => answered (decided.trans (if_pos weaker)), fun stronger => ?_⟩
      rw [next, decided.trans (if_neg (Nat.not_lt.mpr stronger)), State.grant, grantTime_eq, id]
      rfl

/-- Settles O30: the grant by the state of the entry that it finds. -/
theorem grantIsTakenOrReturned : Obligations.GrantIsTakenOrReturned := by
  intro s dt source c x started carried low high client u
  have next : exec (.roamGrant dt) s = .next (u.decideGrant source c x) := by
    rw [exec_roamGrant dt carried, State.onRoam_of_started started dt ⟨low, high⟩ client]
  refine ⟨fun e t found reserved => ?_, fun absent running room => ?_, fun absent no_place => ?_, fun e a t found away other => ?_,
    fun e t found repeated => ?_, fun e found counted => ?_⟩
  · rw [next, State.decideGrant_of_entry (s := u) found]
    simp only [reserved, if_true, State.takeGrant, roamInTime_eq]
    rfl
  · let e := (ClientEntry.fresh c (.roamIn source (u.now + roamInTime)) (-400) false u.now).install x
    have missing : u.findEntry c = none := absent
    have others : ∀ y ∈ u.au.clients, y.id ≠ (u.scored e).id := State.absent_of_findEntry missing
    have created : u.takeLateGrant source c x = _ := State.createEntry_eq (s := u) (e := e) missing
    have taken : u.decideGrant source c x = u.takeLateGrant source c x := by
      have on : (u.isRunning && decide (u.au.clients.length < u.par.limit)) = true := by
        rw [Bool.and_eq_true, State.isRunning_iff, decide_eq_true_iff]
        exact ⟨running, room⟩
      rw [State.decideGrant, missing]
      exact if_pos on
    refine ⟨_, next.trans (congrArg Host.Outcome.next (taken.trans created)), rfl, ?_, ?_, ?_, fun d other => ⟨?_, ?_⟩⟩
    · refine (putBy_clients_find others c).trans ((if_pos rfl).trans ?_)
      simp only [e, roamInTime_eq]
      rfl
    · exact find_erase_self (fun g : Sighting => g.id) c s.au.sightings
    · exact (putBy_perm_new fun y hy same => others y hy (BitVec.eq_of_toNat_eq same)).length_eq
    · exact (putBy_clients_find others d).trans (if_neg other)
    · exact find_erase_other (fun g : Sighting => g.id) other s.au.sightings
  · have off : ¬ (u.isRunning && decide (u.au.clients.length < u.par.limit)) = true := by
      rw [Bool.and_eq_true, State.isRunning_iff, decide_eq_true_iff]
      exact fun ⟨running, room⟩ => no_place.elim (· running) fun full => absurd room (Nat.not_lt.mpr full)
    rw [next, State.decideGrant, show u.findEntry c = none from absent]
    exact congrArg Host.Outcome.next (if_neg off)
  · rw [next, State.decideGrant_of_entry (s := u) found]
    obtain away | away := away <;> simp only [away, if_neg other]
  · rw [next, State.decideGrant_of_entry (s := u) found]
    simp only [repeated, if_true]
  · have merges : u.decideGrant source c x = u.mergeGrant source e x := by
      rw [State.decideGrant_of_entry (s := u) found]
      cases state : e.state with
      | associated => rfl
      | roamOut => rfl
      | reserved => rw [state] at counted; exact absurd counted Bool.false_ne_true
      | roamIn => rw [state] at counted; exact absurd counted Bool.false_ne_true
    rw [next, merges, State.mergeGrant, State.findEntry_id found]
    refine ⟨fun awaited => ?_, fun unawaited => ?_⟩
    · rw [if_pos awaited]
    · rw [unawaited, if_neg Bool.false_ne_true]

/-- Settles O31: a reservation backs off, a roamed-in entry goes, a roamed-out one returns. -/
theorem roamExchangesEnd : Obligations.RoamExchangesEnd := by
  intro s dt c e a t found gone backedOff back taken
  have id := State.findEntry_id found
  have onTime : (s.elapse dt).findEntry c = some e := found
  have onFrame : taken.findEntry c = some e := found
  have ended {u : State} (held : u.findEntry c = some e) (now : u.now = s.now + dt) (sightings : u.au.sightings = s.au.sightings)
      (reserved : e.state = .reserved a t) (room : s.au.sightings.length < 32) : u.endReservation e a = backedOff u := by
    have removed : u.removeEntry e.id = gone u := by
      rw [id, State.removeEntry_of_uncounted held (by rw [reserved]; rfl)]
    have place : (gone u).makesPlace s.au.sightings := .inl ⟨by rw [← sightings] at room; exact room, sightings.symm⟩
    rw [State.endReservation, removed, State.insertSighting_of_place place, State.sightingRemoval, now, id]
    rfl
  refine ⟨fun reserved room => ⟨fun late => ?_, fun reason n started carried low high client => ?_⟩, fun roamIn late => ?_,
    fun roamOut late => ?_, fun roamOut started carried low high client => ?_⟩
  · have reached : (s.elapse dt).reached t = true := (State.reached_iff _ _).mpr late
    show execClaimTimerExpiry dt c s = _
    simp only [execClaimTimerExpiry, onTime, reserved, reached, if_true, ended onTime rfl rfl reserved room]
  · rw [exec_roamDeny dt carried, State.onRoam_of_started started dt ⟨low, high⟩ client]
    show Host.Outcome.next (taken.takeDenial a c) = _
    rw [State.takeDenial, onFrame]
    simp only [reserved, if_true, ended onFrame rfl rfl reserved room]
  · have reached : (s.elapse dt).reached t = true := (State.reached_iff _ _).mpr late
    show execRoamInTimerExpiry dt c s = _
    simp only [execRoamInTimerExpiry, onTime, roamIn, reached, if_true,
      State.removeEntry_of_uncounted onTime (by rw [roamIn]; rfl)]
    rfl
  · have reached : (s.elapse dt).reached t = true := (State.reached_iff _ _).mpr late
    show execGrantTimerExpiry dt c s = _
    simp only [execGrantTimerExpiry, onTime, roamOut, reached, if_true]
    rfl
  · rw [exec_roamReturn dt carried, State.onRoam_of_started started dt ⟨low, high⟩ client]
    show Host.Outcome.next (taken.takeReturn a c) = _
    rw [State.takeReturn, onFrame]
    simp only [roamOut, if_true, State.returnEntry, holdDownTime_eq]
    rfl

/-- Settles O32: the context goes out first, so the removal finds the entry that it names. -/
theorem movedClientIsLetGo : Obligations.MovedClientIsLetGo := by
  intro s dt source c wanted started carried low high client u replied
  have next : exec (.clientMoved dt) s = .next (u.takeMoved source c wanted) := by
    rw [exec_clientMoved dt carried, State.onRoam_of_started started dt ⟨low, high⟩ client]
  have kept (x : Option Context) : (replied x).findEntry c = s.findEntry c := by
    simp only [replied]
    split
    · rw [State.findEntry, (State.send_frame _ _ _).2.2.2.2.1]
      rfl
    · rfl
  refine ⟨fun absent => ?_, fun e found once => ?_⟩
  · rw [next, State.takeMoved, show u.findEntry c = none from absent]
    show Host.Outcome.next ((replied none).removeEntry c) = _
    rw [State.removeEntry, kept, absent]
  · intro v
    have held : v.findEntry c = some e := (kept _).trans found
    rw [next, State.takeMoved, show u.findEntry c = some e from found]
    show Host.Outcome.next (v.removeEntry c) = _
    cases counted : e.state.counted with
    | true => rw [State.removeEntry_of_counted held counted once, if_pos rfl]; rfl
    | false => rw [State.removeEntry_of_uncounted held counted, if_neg Bool.false_ne_true]; rfl

/-- Settles O33: the merge of an awaited context, and the merge of its bindings one by one. -/
theorem awaitedContextIsMerged : Obligations.AwaitedContextIsMerged := by
  refine ⟨fun s dt source c x started carried low high client => ?_, fun l b more => ⟨rfl, fun few new => ?_, fun old => ?_,
    fun full => mergeBindings_of_full full more⟩⟩
  · intro u ended
    have next : exec (.contextReply dt) s = .next (u.takeContext source c x) := by
      rw [exec_contextReply dt carried, State.onRoam_of_started started dt ⟨low, high⟩ client]
    refine ⟨fun unawaited => ?_, fun e t found associated wait => ?_⟩
    · rw [next, State.takeContext_of_unawaited (s := u) unawaited]
    · have awaited := ClientEntry.awaits_of_wait associated wait
      refine ⟨fun empty => ?_, fun y full => ?_⟩
      · rw [next, State.takeContext_of_awaited (s := u) found awaited, empty]
        rfl
      · have record (e : ClientEntry) : e.record.or y.record = match e.record with
            | none => y.record
            | some r => some r := by
          cases e.record <;> rfl
        rw [next, State.takeContext_of_awaited (s := u) found awaited, full]
        simp only [State.mergeContext, record]
        rfl
  · have unbound : ¬ (4 ≤ l.length ∨ l.any (fun x => x.serial == b.serial) = true) := by
      rintro (full | bound)
      · exact absurd few (Nat.not_lt.mpr full)
      · exact new (by simpa using bound)
    rw [mergeBindings_cons, if_neg unbound]
  · have bound : l.any (fun x => x.serial == b.serial) = true := by simpa using old
    rw [mergeBindings_cons, if_pos (.inr bound)]

end

section
/-! SUPPORT. Stream announcements and segments (R103 to R106, R115 to R117): the place of a new stream, the end of a stream, and the tests
of a segment. -/

namespace Sys2Proof.Machine

/-! ## A new stream's place (R104) -/

theorem State.deleteStream_eq (s : State) (i : StreamId) :
    s.deleteStream i =
      s.setRu
        { s.ru with
          catalogue := s.ru.catalogue.filter (fun x => x.id != i),
          cycle := { s.ru.cycle with active := s.ru.cycle.active.map (fun r => if r = some i then none else r) } } := by
  simp only [State.deleteStream, beq_iff_eq]

theorem State.insertStream_of_room {s : State} (room : s.ru.catalogue.length < 16) (e : StreamEntry) :
    s.insertStream e = s.setRu { s.ru with catalogue := putBy (fun x => x.id) e s.ru.catalogue } := if_pos room

theorem State.insertStream_of_full {s : State} (full : 16 ≤ s.ru.catalogue.length) (e : StreamEntry) :
    s.insertStream e =
      match minBy StreamEntry.replacementRank (s.ru.catalogue.filter (fun x => x.activity == .dormant)) with
      | some old =>
        (s.deleteStream old.id).setRu
          { (s.deleteStream old.id).ru with catalogue := putBy (fun x => x.id) e (s.deleteStream old.id).ru.catalogue }
      | none => s :=
  if_neg (Nat.not_lt.mpr full)

/-- The replaced stream is the DORMANT one announced longest ago, the lowest ID of several (R104). -/
theorem replaced_id {cat : List StreamEntry} {old : StreamEntry} (held : old ∈ cat) (dormant : old.activity = .dormant)
    (ids : ∀ x ∈ cat, x.id < 256)
    (oldest : ∀ x ∈ cat, x.activity = .dormant →
      old.lastAnnounced < x.lastAnnounced ∨ (old.lastAnnounced = x.lastAnnounced ∧ old.id ≤ x.id)) :
    ∃ x, minBy StreamEntry.replacementRank (cat.filter (fun x => x.activity == .dormant)) = some x ∧ x.id = old.id := by
  have candidate : old ∈ cat.filter (fun x => x.activity == .dormant) := List.mem_filter.mpr ⟨held, beq_iff_eq.mpr dormant⟩
  cases least : minBy StreamEntry.replacementRank (cat.filter (fun x => x.activity == .dormant)) with
  | none => exact absurd (minBy_eq_none.mp least) (List.ne_nil_of_mem candidate)
  | some x =>
    obtain ⟨member, lowest⟩ := minBy_spec least
    obtain ⟨memberOf, asleep⟩ := List.mem_filter.mp member
    have rank : x.lastAnnounced * 2 ^ 8 + x.id ≤ old.lastAnnounced * 2 ^ 8 + old.id := lowest old candidate
    have equal (a b m n : Nat) (ha : a < 256) (hb : b < 256) (le : m * 2 ^ 8 + a ≤ n * 2 ^ 8 + b)
        (ge : n < m ∨ (n = m ∧ b ≤ a)) : a = b := by omega
    exact ⟨x, rfl, equal _ _ _ _ (ids x memberOf) (ids old held) rank (oldest x memberOf (beq_iff_eq.mp asleep))⟩

/-! ## The tests of a segment (R116, R117) -/

theorem late_iff (next q : Sequence) :
    late next q = true ↔
      1 ≤ (next.toNat + 65536 - q.toNat) % 65536 ∧ (next.toNat + 65536 - q.toNat) % 65536 ≤ 32768 := by
  have behind : (next - q).toNat = (next.toNat + 65536 - q.toNat) % 65536 := by
    have := q.isLt
    rw [BitVec.toNat_sub]
    omega
  rw [late, decide_eq_true_iff, behind]

theorem StreamEntry.discards_eq_false {e : StreamEntry} {q : Sequence} :
    e.discards q = false ↔
      (∀ next, e.next = some next → ¬ late next q = true) ∧ (∀ x ∈ e.unaired, x.seq ≠ q) ∧ e.unaired.length < 7 := by
  simp only [StreamEntry.discards, Bool.or_eq_false_iff, Option.any_eq_false, List.any_eq_false, beq_iff_eq,
    decide_eq_false_iff_not, Nat.not_le, and_assoc, Bool.not_eq_true, ne_eq]
  rfl

theorem State.acceptsSegment_iff (s : State) (source : Station) (i : StreamId) (q : Sequence) (len : Nat) (data : List Byte) :
    s.acceptsSegment source i q len data = true ↔
      source = 30 ∧ 1 ≤ len ∧ len ≤ 1408 ∧ data.length = len ∧
        ∃ e, s.findStream i = some e ∧ (e.activity = .joining ∨ e.activity = .active) ∧ e.discards q = false := by
  simp only [State.acceptsSegment, Bool.and_eq_true, beq_iff_eq, decide_eq_true_iff, Option.any_eq_true, StreamEntry.wanted,
    Bool.or_eq_true, Bool.not_eq_true', and_assoc]
  rfl

end Sys2Proof.Machine

open Sys2Proof Sys2Proof.Machine

/-- Settles O36: an announced stream is updated where it is held, and otherwise finds its place or none. -/
theorem liveStreamIsInsertedOrUpdated : Obligations.LiveStreamIsInsertedOrUpdated := by
  refine ⟨fun s dt i tier fill started named carried => ?_, fun s dt source i tier fill carried nothing => ?_⟩
  · intro u new put
    have next : exec (.streamAnnounceLive dt) s = .next (u.announceLive i tier fill) := by
      rw [exec_streamAnnounceLive dt carried, State.onFrame_of_started started]
      exact congrArg Host.Outcome.next (if_pos ⟨rfl, named⟩)
    have inserts (absent : s.findStream i = none) : u.announceLive i tier fill = u.insertStream new := by
      rw [State.announceLive, show u.findStream i = none from absent]
      rfl
    refine ⟨fun held => ?_, fun absent room => ?_, fun absent full awake => ?_,
      fun old member absent full dormant ids oldest => ?_⟩
    · obtain ⟨e, found⟩ := Option.ne_none_iff_exists'.mp held
      rw [next, State.announceLive, show u.findStream i = some e from found]
      rfl
    · rw [next, inserts absent, State.insertStream_of_room (s := u) room]
      rfl
    · have none : minBy StreamEntry.replacementRank (u.ru.catalogue.filter (fun x => x.activity == .dormant)) = none :=
        minBy_eq_none.mpr (List.filter_eq_nil_iff.mpr fun x held asleep => awake x held (beq_iff_eq.mp asleep))
      rw [next, inserts absent, State.insertStream_of_full (s := u) full, none]
    · obtain ⟨x, least, id⟩ := replaced_id member dormant ids oldest
      rw [next, inserts absent, State.insertStream_of_full (s := u) full,
        show minBy StreamEntry.replacementRank (u.ru.catalogue.filter (fun x => x.activity == .dormant)) = some x from least]
      simp only [id, State.deleteStream_eq]
      rfl
  · by_cases started : s.sl.nodeState = .starting
    · rw [exec_streamAnnounceLive dt carried, State.onFrame_of_starting started]
    · rw [exec_streamAnnounceLive dt carried, State.onFrame_of_started started]
      exact congrArg Host.Outcome.next (if_neg fun acts => nothing.elim (· acts.1) acts.2)

/-- Settles O37: the subscribers lose the stream in a drawn order, and then its activity at the announcement decides. -/
theorem endedStreamLosesItsSubscribers : Obligations.EndedStreamLosesItsSubscribers := by
  refine ⟨fun s dt i tier fill started named carried => ?_, fun s dt source i tier fill carried nothing => ?_⟩
  · intro u
    have next : exec (.streamAnnounceEnded dt) s = .next (u.announceEnded i) := by
      rw [exec_streamAnnounceEnded dt carried, State.onFrame_of_started started]
      exact congrArg Host.Outcome.next (if_pos ⟨rfl, named⟩)
    refine ⟨fun ended => ?_, fun e found live => ⟨u.freeOrder (u.subscribersOf i), sortBy_perm _ _, ?_⟩⟩
    · rw [next, State.announceEnded]
      cases found : u.findStream i with
      | none => rfl
      | some e => exact congrArg Host.Outcome.next (if_pos (ended e found))
    · intro v
      have ends : u.announceEnded i =
          match e.activity with
          | .active => v.updateStream i (fun e => { e with activity := .leaving, ended := true, joinMarker := false })
          | .dormant => v.deleteStream i
          | .joining => v.deleteStream i
          | .leaving => v.deleteStream i := by
        rw [State.announceEnded, show u.findStream i = some e from found]
        exact if_neg (by rw [live]; decide)
      refine ⟨fun active => ?_, fun other => ?_⟩
      · rw [next, ends, active]
      · rw [next, ends, ← State.deleteStream_eq]
        cases activity : e.activity with
        | active => exact absurd activity other
        | dormant => rfl
        | joining => rfl
        | leaving => rfl
  · by_cases started : s.sl.nodeState = .starting
    · rw [exec_streamAnnounceEnded dt carried, State.onFrame_of_starting started]
    · rw [exec_streamAnnounceEnded dt carried, State.onFrame_of_started started]
      exact congrArg Host.Outcome.next (if_neg fun acts => nothing.elim (· acts.1) acts.2)

/-- Settles O38: the acceptance test says exactly what the statement asks of a segment. -/
theorem segmentIsCachedOrDiscarded : Obligations.SegmentIsCachedOrDiscarded := by
  intro s dt source i q len data started carried u late' takes
  have next : exec (.segment dt) s = .next (u.takeSegment source i q len data) := by
    rw [exec_segment dt carried, State.onFrame_of_started started]
  have accepts : u.acceptsSegment source i q len data = true ↔ takes := by
    simp only [State.acceptsSegment_iff, StreamEntry.discards_eq_false, late_iff, takes, late']
    rfl
  refine ⟨fun taken => ?_, fun refused => ?_⟩
  · rw [next, State.takeSegment, if_pos (accepts.mpr taken)]
    rfl
  · rw [next, State.takeSegment, if_neg (mt accepts.mp refused)]

end

section
/-! SUPPORT. The replay cycle (R110, R114, R119, R122 to R135): what a slot does, the list that a cycle start makes, and the end and the
reset of a cycle. -/

namespace Sys2Proof.Machine

/-! ## A slot (R124 to R130) -/

theorem State.slotStream_eq_some {s : State} {k : Nat} {e : StreamEntry} (found : s.slotStream k = some e) :
    ∃ i, s.ru.cycle.active[(s.ru.cycle.offset + k) % s.ru.cycle.active.length]? = some (some i) ∧ s.findStream i = some e := by
  unfold State.slotStream at found
  split at found
  next i place => exact ⟨i, place, found⟩
  next => exact absurd found nofun

theorem State.slotStream_of_place {s : State} {k : Nat} {i : StreamId}
    (place : s.ru.cycle.active[(s.ru.cycle.offset + k) % s.ru.cycle.active.length]? = some (some i)) :
    s.slotStream k = s.findStream i := by
  rw [State.slotStream, place]

/-- The stream after an underrun, by the run before it (R130). -/
theorem StreamEntry.afterUnderrun_eq (e : StreamEntry) :
    e.afterUnderrun =
      if 1 ≤ e.underrunRun ∧ e.unaired ≠ [] then { e with next := e.unaired.head?.map (·.seq), underrunRun := 0 }
      else { e with underrunRun := min 2 (e.underrunRun + 1) } := by
  have run : min 2 (e.underrunRun + 1) = 2 ↔ 1 ≤ e.underrunRun := by omega
  cases waiting : e.unaired with
  | nil => simp [StreamEntry.afterUnderrun, waiting]
  | cons g rest => simp [StreamEntry.afterUnderrun, waiting, run]

theorem StreamEntry.due_eq_some {e : StreamEntry} {q : Sequence} {g : Segment} (next : e.next = some q)
    (cached : e.unaired.find? (fun y => y.seq == q) = some g) : e.due = some g := by
  rw [StreamEntry.due, next]
  exact cached

theorem StreamEntry.due_eq_none {e : StreamEntry} (missing : ∀ q, e.next = some q → ∀ x ∈ e.unaired, x.seq ≠ q) : e.due = none := by
  unfold StreamEntry.due
  split
  next => rfl
  next q next => exact List.find?_eq_none.mpr fun x held same => missing q next x held (beq_iff_eq.mp same)

/-- The state in which a slot begins (R124). -/
def State.atSlot (s : State) (k : Nat) : State := s.setRu { s.ru with cycle := { s.ru.cycle with slot := some k } }

theorem State.startSlot_of_idle {s : State} {k : Nat}
    (idle : ∀ e, s.slotStream k = some e → e.activity ≠ .active) : s.startSlot k = s.atSlot k := by
  have same : (s.atSlot k).slotStream k = s.slotStream k := rfl
  unfold State.startSlot
  show (match (s.atSlot k).slotStream k with
    | none => s.atSlot k
    | some e => _) = _
  rw [same]
  split
  next => rfl
  next e found => exact if_neg (idle e found)

theorem State.startSlot_of_active {s : State} {k : Nat} {e : StreamEntry} (found : s.slotStream k = some e)
    (active : e.activity = .active) :
    s.startSlot k =
      match e.due with
      | some g => if s.downlinkRoom then (s.atSlot k).airSegment e g else (s.atSlot k).underrun e
      | none => (s.atSlot k).underrun e := by
  have same : (s.atSlot k).slotStream k = some e := found
  unfold State.startSlot
  show (match (s.atSlot k).slotStream k with
    | none => s.atSlot k
    | some e => _) = _
  rw [same]
  exact (if_pos active).trans rfl

end Sys2Proof.Machine

open Sys2Proof Sys2Proof.Machine

/-- Settles O39: the slot's stream, the segment due and the room of the downlink queue decide in this order. -/
theorem slotAirsOrUnderruns : Obligations.SlotAirsOrUnderruns := by
  intro s dt k running first inside late place u
  have next : exec (.slotStart dt) s = .next ((s.elapse dt).startSlot k) := by
    have number : (s.elapse dt).nextSlot = k := by
      obtain ⟨unset, rfl⟩ | ⟨j, slot, rfl⟩ := first
      · rw [State.nextSlot, show (s.elapse dt).ru.cycle.slot = none from unset]; rfl
      · rw [State.nextSlot, show (s.elapse dt).ru.cycle.slot = some j from slot]; rfl
    have due : (s.elapse dt).slotDue = true := by
      rw [State.slotDue, number, Bool.and_eq_true, Bool.and_eq_true, decide_eq_true_iff, State.reached_iff]
      exact ⟨⟨running, inside⟩, late⟩
    show Host.Outcome.next (if (s.elapse dt).slotDue then (s.elapse dt).startSlot (s.elapse dt).nextSlot else s.elapse dt) = _
    rw [if_pos due, number]
  refine ⟨next, fun asleep => ?_, fun i e at_ found active => ?_⟩
  · rw [next]
    refine congrArg Host.Outcome.next (State.startSlot_of_idle fun e found => ?_)
    obtain ⟨i, at_, held⟩ := State.slotStream_eq_some found
    exact asleep i at_ e held
  · intro units air carried
    have stream : (s.elapse dt).slotStream k = some e := (State.slotStream_of_place (s := s.elapse dt) at_).trans found
    have id : e.id = i := State.findStream_id found
    have started := State.startSlot_of_active stream active
    refine ⟨fun q x nextIs cached room => ?_, fun missing => ?_⟩
    · have roomy : (s.elapse dt).downlinkRoom = true := decide_eq_true_iff.mpr room
      have seq : x.seq = q := by simpa using List.find?_some cached
      rw [next, started, StreamEntry.due_eq_some nextIs cached]
      simp only [roomy, if_true]
      subst seq id
      rfl
    · intro v filled
      have under : (s.elapse dt).startSlot k = ((s.elapse dt).atSlot k).underrun e := by
        rw [started]
        obtain missing | full := missing
        · rw [StreamEntry.due_eq_none missing]
        · have crowded : (s.elapse dt).downlinkRoom = false := decide_eq_false_iff_not.mpr (Nat.not_lt.mpr full)
          rw [crowded]
          cases e.due <;> rfl
      have room : v.downlinkRoom = decide (s.rp.downlink.length < 16) := by
        rw [State.downlinkRoom, (State.count_frame _ _).2.2.2.2.2.2.2.2]
        rfl
      have fills : v.fillSlot e = filled := by
        simp only [State.fillSlot, filled, room, decide_eq_true_iff, id]
        cases e.fill <;> cases e.aired <;> rfl
      rw [next, under, State.underrun]
      show Host.Outcome.next ((v.fillSlot e).updateStream e.id StreamEntry.afterUnderrun) = _
      rw [fills, id, funext StreamEntry.afterUnderrun_eq]

end

section
/-! SUPPORT. The start, the end and the reset of a replay cycle (R110, R114, R119, R122, R123, R132 to R135). -/

namespace Sys2Proof.Machine

/-! ## Sorting and changes that keep the rank -/

theorem placeBy_map {α : Type} {rank : α → Nat} {f : α → α} (same : ∀ x, rank (f x) = rank x) (x : α) (l : List α) :
    placeBy rank (f x) (l.map f) = (placeBy rank x l).map f := by
  induction l with
  | nil => rfl
  | cons y ys ih =>
    rw [List.map_cons, placeBy, placeBy, same, same]
    split
    · rfl
    · rw [ih, List.map_cons]

theorem sortBy_map {α : Type} {rank : α → Nat} {f : α → α} (same : ∀ x, rank (f x) = rank x) (l : List α) :
    sortBy rank (l.map f) = (sortBy rank l).map f := by
  induction l with
  | nil => rfl
  | cons x xs ih => rw [List.map_cons, sortBy, sortBy, ih, placeBy_map same]

/-! ## The streams that want airing (R114, R123) -/

/-- The JOINING and ACTIVE streams in order of air group (R114). -/
def State.wanting (s : State) : List StreamEntry := sortBy (fun e => e.airGroup.getD 0) (s.ru.catalogue.filter StreamEntry.wanted)

theorem State.wants_eq (s : State) : s.wants = s.wanting.map (·.id) := rfl

theorem StreamEntry.activated_id (e : StreamEntry) : e.activated.id = e.id := (e.steady_activated).id

/-- The streams that a cycle start makes or finds ACTIVE are those that want airing. -/
theorem activated_active (cat : List StreamEntry) :
    (cat.map StreamEntry.activated).filter (fun e => e.activity == .active) = (cat.filter StreamEntry.wanted).map StreamEntry.activated := by
  have same : ((fun e : StreamEntry => e.activity == .active) ∘ StreamEntry.activated) = StreamEntry.wanted := funext fun e => by
    cases h : e.activity <;> simp [StreamEntry.activated, StreamEntry.wanted, h]
  rw [List.filter_map, same]

/-- No LEAVING stream wants airing, cleared or not. -/
theorem clearLeaving_wanted (cat : List StreamEntry) :
    (clearLeaving cat).filter StreamEntry.wanted = cat.filter StreamEntry.wanted := by
  induction cat with
  | nil => rfl
  | cons e cat ih =>
    rw [clearLeaving, List.filterMap_cons, List.filter_cons, ← ih]
    by_cases leaving : e.activity = .leaving
    · have unwanted : e.wanted = false := by simp [StreamEntry.wanted, leaving]
      rw [if_pos leaving, unwanted]
      cases e.ended <;> rfl
    · rw [if_neg leaving]
      exact List.filter_cons

/-- A cycle start, with its active list in order of air group (R123). -/
theorem State.startCycle_eq (s : State) (offset : Nat → Nat) :
    s.startCycle offset =
      (s.setRu
        { s.ru with
          catalogue := s.ru.catalogue.map StreamEntry.activated,
          cycle :=
            { running := true, offset := offset s.wanting.length, active := s.wanting.map (fun e => some e.id), slot := none,
              units := 0, startedAt := s.now } }).startSlot 0 := by
  have list : (s.ru.catalogue.map StreamEntry.activated).filter (fun e => e.activity == .active) =
      (s.ru.catalogue.filter StreamEntry.wanted).map StreamEntry.activated := activated_active _
  have sorted : sortBy (fun e => e.airGroup.getD 0)
      ((s.ru.catalogue.map StreamEntry.activated).filter (fun e => e.activity == .active)) =
        s.wanting.map StreamEntry.activated := by
    rw [list]
    exact sortBy_map (fun e => by rw [StreamEntry.activated_airGroup]) _
  have ids : (s.wanting.map StreamEntry.activated).map (·.id) = s.wanting.map (·.id) := by
    rw [List.map_map]
    exact List.map_congr_left fun e _ => e.activated_id
  have streams : (s.setRu { s.ru with catalogue := s.ru.catalogue.map StreamEntry.activated }).streamsByGroup
      (fun e => e.activity == .active) = s.wanting.map (·.id) := by
    rw [State.streamsByGroup, ← ids]
    exact congrArg (List.map (·.id)) sorted
  rw [State.startCycle]
  simp only [streams, List.length_map, List.map_map]
  rfl

/-! ## The hand-over of U (R33, R133) -/

/-- The client table with every entry rescored under an occupancy (R33). -/
def State.rescoredAt (s : State) (occupancy : Nat) : Association :=
  { s.au with
    clients := s.au.clients.map (fun e =>
      { e with score := servingScore e.signal occupancy s.au.clients.length (s.home e.id) }) }

/-- Only the last occupancy counts. -/
theorem State.rescoredAt_rescored {s t : State} {first : Nat} (au : t.au = s.rescoredAt first) (seats : t.sv.seats = s.sv.seats)
    (occupancy : Nat) : t.rescoredAt occupancy = s.rescoredAt occupancy := by
  have home (c : ClientId) : t.home c = s.home c := by rw [State.home, seats, State.home]
  simp only [State.rescoredAt, au, home, List.map_map, List.length_map]
  rfl

/-! ## The end of a cycle (R133, R134) -/

/-- The announcement state after the want list has been compared (R114). -/
def State.wantAnu (s : State) : Announcement :=
  if s.wanting.map (·.id) = s.anu.wantList then s.anu
  else { s.anu with wantList := s.wanting.map (·.id), streamWant := { s.anu.streamWant with armed := true } }

theorem State.compareWants_eq_wantAnu (s : State) : s.compareWants = s.setAnu s.wantAnu := by
  rw [State.compareWants, State.wantAnu, State.wants_eq]
  split <;> rfl

/-- The state at the fifth step of a cycle end: U handed over, LEAVING streams cleared, the want list compared. -/
def State.ending (s : State) : State :=
  (((s.setRu
    { s.ru with
      occupancy := occupancyOf s.ru.cycle.units s.par.slots, catalogue := clearLeaving s.ru.catalogue }).setAu
        (s.rescoredAt (occupancyOf s.ru.cycle.units s.par.slots))).setAnu s.wantAnu)

theorem State.ending_wanting (s : State) : s.ending.wanting = s.wanting :=
  congrArg (sortBy (fun e : StreamEntry => e.airGroup.getD 0)) (clearLeaving_wanted s.ru.catalogue)

theorem State.endCycle_eq (s : State) :
    s.endCycle = if s.wanting = [] then s.ending.stopCycle else s.ending.startNextCycle := by
  let t := (s.setRu
    { s.ru with
      occupancy := occupancyOf s.ru.cycle.units s.par.slots, catalogue := clearLeaving s.ru.catalogue }).setAu
        (s.rescoredAt (occupancyOf s.ru.cycle.units s.par.slots))
  have wanting : t.wanting = s.wanting := congrArg (sortBy (fun e : StreamEntry => e.airGroup.getD 0)) (clearLeaving_wanted s.ru.catalogue)
  have ending : t.compareWants = s.ending := by
    rw [State.compareWants_eq_wantAnu, State.wantAnu, wanting]
    rfl
  have empty : s.ending.wants.isEmpty = true ↔ s.wanting = [] := by
    rw [State.wants_eq, State.ending_wanting, List.isEmpty_iff, List.map_eq_nil_iff]
  show (if t.compareWants.wants.isEmpty then t.compareWants.stopCycle else t.compareWants.startNextCycle) = _
  rw [ending]
  exact if_congr empty rfl rfl

theorem State.stopCycle_eq (s : State) :
    s.stopCycle =
      (s.setRu
        { s.ru with
          occupancy := 0, cycle := { s.ru.cycle with running := false, active := [], slot := none, units := 0 } }).setAu
        (s.rescoredAt 0) := rfl

/-! ## The reset (R119, R135) -/

/-- The catalogue entry that a reset leaves of a stream whose count and activity agree (R119). -/
def StreamEntry.reset (e : StreamEntry) : Option StreamEntry :=
  if e.activity = .leaving then (if e.ended then none else some e.cleared)
  else if e.subscribers = 0 then some { e with aired := none, unaired := [] }
  else
    some
      { e with activity := .joining, next := none, underrunRun := 0, joinMarker := false, aired := none, unaired := [] }

theorem reset_catalogue {cat : List StreamEntry} (silent : ∀ e ∈ cat, e.activity = .leaving → e.subscribers = 0) :
    (clearLeaving (cat.map StreamEntry.freed)).map StreamEntry.rejoined = cat.filterMap StreamEntry.reset := by
  rw [clearLeaving, List.filterMap_map, List.map_filterMap]
  refine List.filterMap_congr fun e held => ?_
  show Option.map StreamEntry.rejoined (if e.activity = .leaving then (if e.ended then none else some e.freed.cleared)
    else some e.freed) = e.reset
  rw [StreamEntry.reset]
  split
  next leaving =>
    split
    next => rfl
    next => exact congrArg some (if_pos (silent e held leaving))
  next =>
    split
    next zero => exact congrArg some (if_pos zero)
    next counted => exact congrArg some (if_neg counted)

/-- A reset leaves JOINING the streams that have subscribers, and no other. -/
theorem StreamEntry.reset_joining {e x : StreamEntry}
    (agree : (e.activity = .joining ∨ e.activity = .active) ↔ e.subscribers ≠ 0) (left : e.reset = some x) :
    x.activity = .joining ↔ e.subscribers ≠ 0 := by
  unfold StreamEntry.reset at left
  split at left
  next leaving =>
    have silent : ¬ e.subscribers ≠ 0 := by rw [← agree, leaving]; decide
    split at left
    · exact absurd left nofun
    · obtain rfl := Option.some.inj left
      exact iff_of_false (fun joining => absurd (show Activity.dormant = .joining from joining) (by decide)) silent
  next =>
    split at left
    next zero =>
      obtain rfl := Option.some.inj left
      exact ⟨fun joining => agree.mp (.inl joining), fun counted => absurd zero counted⟩
    next counted =>
      obtain rfl := Option.some.inj left
      exact iff_of_true rfl counted

end Sys2Proof.Machine

open Sys2Proof Sys2Proof.Machine

/-- Settles O40: clearing takes no stream from the want list, so the list compared is the list of the next cycle. -/
theorem cycleEndClosesAndRestarts : Obligations.CycleEndClosesAndRestarts := by
  refine ⟨fun s dt k running slot last late => ?_, fun e => rfl⟩
  intro wanted left rescored
  let u := s.elapse dt
  have next : exec (.cycleEnd dt) s = .next u.endCycle := by
    have due : u.cycleEndDue = true := by
      have number : u.nextSlot = k + 1 := by rw [State.nextSlot, show u.ru.cycle.slot = some k from slot]; rfl
      rw [State.cycleEndDue, number, Bool.and_eq_true, Bool.and_eq_true, decide_eq_true_iff, State.reached_iff]
      exact ⟨⟨running, last⟩, late⟩
    exact congrArg Host.Outcome.next (if_pos due)
  refine ⟨u.wanting, sortBy_perm _ _, sortBy_sorted _ _, ?_⟩
  intro ids anu
  refine ⟨fun empty => ?_, fun some_ => ?_⟩
  · have rescoring : u.ending.rescoredAt 0 = u.rescoredAt 0 := State.rescoredAt_rescored (s := u) (t := u.ending) rfl rfl 0
    rw [next, State.endCycle_eq, if_pos empty, State.stopCycle_eq, rescoring]
    rfl
  · intro occupancy
    rw [next, State.endCycle_eq, if_neg some_, State.startNextCycle, State.startCycle_eq, State.ending_wanting]
    have places : ids.map some = u.wanting.map (fun e => some e.id) := List.map_map ..
    rw [places]
    rfl

/-- Settles O41: a reset clears, rejoins and starts as a start from STOPPED does. -/
theorem replayResetRestartsTheCycle : Obligations.ReplayResetRestartsTheCycle := by
  refine ⟨fun s dt started carried agree => ?_, fun s => ?_⟩
  · intro u kept stopped
    have silent : ∀ e ∈ s.ru.catalogue, e.activity = .leaving → e.subscribers = 0 := fun e held leaving => by
      have idle := mt (agree e held).mpr (by rw [leaving]; decide)
      exact not_not.mp idle
    have cat : (clearLeaving (s.ru.catalogue.map StreamEntry.freed)).map StreamEntry.rejoined = kept := reset_catalogue silent
    have resets : u.resetReplay =
        if kept.any (fun e => e.activity == .joining) then stopped.startCycleFromStopped else stopped := by
      simp only [stopped, ← cat]
      rfl
    have next : exec (.blockResetReplay dt) s =
        .next (if kept.any (fun e => e.activity == .joining) then stopped.startCycleFromStopped else stopped) := by
      rw [exec_blockResetReplay dt carried, State.onFrame_of_started started, ← resets]
    have joining : kept.any (fun e => e.activity == .joining) = true ↔ ∃ e ∈ s.ru.catalogue, e.subscribers ≠ 0 := by
      rw [List.any_eq_true]
      constructor
      · rintro ⟨x, member, joins⟩
        obtain ⟨e, held, left⟩ := List.mem_filterMap.mp member
        exact ⟨e, held, (StreamEntry.reset_joining (agree e held) left).mp (beq_iff_eq.mp joins)⟩
      · rintro ⟨e, held, counted⟩
        have awake : e.activity ≠ .leaving := fun leaving => counted (silent e held leaving)
        have left : e.reset = some _ := (if_neg awake).trans (if_neg counted)
        exact ⟨_, List.mem_filterMap.mpr ⟨e, held, left⟩, beq_iff_eq.mpr rfl⟩
    refine ⟨fun unheard => ?_, fun heard => ?_⟩
    · rw [next, if_neg (mt joining.mp fun ⟨e, held, counted⟩ => counted (unheard e held))]
    · rw [next, if_pos (joining.mpr heard)]
  · intro started
    let w := sortBy (fun e : StreamEntry => e.airGroup.getD 0) (started.filter (fun e => e.activity == .active))
    refine ⟨w, sortBy_perm _ _, sortBy_sorted _ _, ?_⟩
    have places : (w.map (·.id)).map some = w.map (fun e => some e.id) := List.map_map ..
    rw [← places]
    rfl

end

section
/-! SUPPORT. Peers (R139 to R143) and received frames (R164 to R169): what a PRESENCE and a LOAD write, and what becomes of a frame that the
line brought. -/

namespace Sys2Proof.Machine

/-! ## PRESENCE (R141, R142) -/

theorem presenceSourceOk_iff (source : Station) (cls : PeerClass) :
    presenceSourceOk source cls = true ↔ (cls = .node ∧ 1 ≤ source ∧ source ≤ 29) ∨ (cls = .gateway ∧ source = 30) := by
  cases cls
  · simp [presenceSourceOk, isNodeStation_iff]
  · simp [presenceSourceOk, gateway]

theorem presenceEntry_block (old : Option PeerEntry) (source : Station) (cls : PeerClass) (block : Option SeatBlock) (t : Time) :
    (presenceEntry old source cls block t).block = block := by
  cases old <;> rfl

theorem State.findsOverlap_iff (s : State) (p : PeerEntry) :
    s.findsOverlap p = true ↔
      s.sl.defaulted = false ∧
        ∃ own b, s.par.block = some own ∧ p.block = some b ∧ b.first ≤ own.last ∧ own.first ≤ b.last := by
  simp only [State.findsOverlap, State.ownBlock, Option.any_eq_true, SeatBlock.overlaps, decide_eq_true_iff]
  constructor
  · rintro ⟨own, ownBlock, b, block, first, last⟩
    cases defaulted : s.sl.defaulted with
    | true => rw [defaulted, if_pos rfl] at ownBlock; exact absurd ownBlock nofun
    | false =>
      rw [defaulted, if_neg Bool.false_ne_true] at ownBlock
      exact ⟨rfl, own, b, ownBlock, block, first, last⟩
  · rintro ⟨undefaulted, own, b, ownBlock, block, first, last⟩
    refine ⟨own, ?_, b, block, first, last⟩
    rw [undefaulted, if_neg Bool.false_ne_true]
    exact ownBlock

/-! ## The judgement of a frame (R164, R165) -/

/-- The tests that a frame passes, whatever its kind (R165). -/
def passesAs (bytes : List Byte) (k : FrameKind) : Prop :=
  5 ≤ bytes.length ∧ bytes.drop (5 + fieldAt bytes 3 2) = crc32Bytes (bytes.take (5 + fieldAt bytes 3 2)) ∧
    fieldAt bytes 3 2 ≤ 1480 ∧ bytes.length = 9 + fieldAt bytes 3 2 ∧ enumAt FrameKind.table bytes 2 = some k ∧
      k.payloadLengthOk (fieldAt bytes 3 2) = true

theorem judgeFrame_of_passes {bytes : List Byte} {k : FrameKind} (passes : passesAs bytes k) :
    judgeFrame bytes = .good (fieldAt bytes 0 1) (fieldAt bytes 1 1) k (slice bytes 5 (fieldAt bytes 3 2)) := by
  obtain ⟨long, check, small, whole, kind, fits⟩ := passes
  have lengths : ¬ (fieldAt bytes 3 2 > 1480 ∨ bytes.length ≠ 9 + fieldAt bytes 3 2) := by omega
  simp only [judgeFrame, if_neg (Nat.not_lt.mpr long), if_neg lengths, if_neg (not_not.mpr check), kind, if_pos fits]

theorem judgeFrame_of_fails {bytes : List Byte} (fails : ∀ k, ¬ passesAs bytes k) :
    judgeFrame bytes = .runt ∨ judgeFrame bytes = .bad := by
  by_cases short : bytes.length < 5
  · exact .inl (if_pos short)
  by_cases lengths : fieldAt bytes 3 2 > 1480 ∨ bytes.length ≠ 9 + fieldAt bytes 3 2
  · exact .inr ((if_neg short).trans (if_pos lengths))
  by_cases check : bytes.drop (5 + fieldAt bytes 3 2) = crc32Bytes (bytes.take (5 + fieldAt bytes 3 2))
  · refine .inr ((if_neg short).trans ((if_neg lengths).trans ((if_neg (not_not.mpr check)).trans ?_)))
    cases kind : enumAt FrameKind.table bytes 2 with
    | none => rfl
    | some k =>
      refine if_neg fun fits => fails k ⟨Nat.not_lt.mp short, check, ?_, ?_, kind, fits⟩ <;> omega
  · exact .inr ((if_neg short).trans ((if_neg lengths).trans (if_pos check)))

/-- The counter of a frame's length, by its bytes on the line (R183). -/
theorem lengthBucket_eq (n : Nat) :
    lengthBucket n = if n + 9 ≤ 63 then 0 else if n + 9 ≤ 255 then 1 else if n + 9 ≤ 1023 then 2 else 3 := by
  have first : n ≤ 54 ↔ n + 9 ≤ 63 := by omega
  have second : n ≤ 246 ↔ n + 9 ≤ 255 := by omega
  have third : n ≤ 1014 ↔ n + 9 ≤ 1023 := by omega
  simp only [lengthBucket, first, second, third]

theorem rxLengthCounter_lengthBucket (n : Nat) :
    rxLengthCounter (lengthBucket n) =
      if n + 9 ≤ 63 then .rx0 else if n + 9 ≤ 255 then .rx1 else if n + 9 ≤ 1023 then .rx2 else .rx3 := by
  rw [lengthBucket_eq]
  split
  · rfl
  · split
    · rfl
    · split <;> rfl

theorem slice_length {bs : List Byte} {i n : Nat} (within : i + n ≤ bs.length) : (slice bs i n).length = n := by
  simp [slice]
  omega

/-! ## What becomes of a good frame (R166 to R169) -/

section
variable {s : State} {bytes : List Byte} {destination source : Station} {k : FrameKind} {payload : List Byte}
  (good : judgeFrame bytes = .good destination source k payload)
include good

theorem State.receive_of_own (own : s.sl.ownAddress = some source) : s.receive bytes = s.addressClash := by
  have mine : s.isOwn source = true := beq_iff_eq.mpr own
  rw [State.receive, good]
  exact if_pos mine

theorem State.receive_of_other (foreign : s.sl.ownAddress ≠ some source) (notZero : destination ≠ 0)
    (notOwn : s.sl.ownAddress ≠ some destination) : s.receive bytes = s := by
  have other : ¬ s.isOwn source = true := fun own => foreign (beq_iff_eq.mp own)
  have unaddressed : ¬ s.addressed destination = true := by
    rw [State.addressed, Bool.or_eq_true, beq_iff_eq]
    rintro (zero | own)
    · exact notZero zero
    · exact notOwn (beq_iff_eq.mp own)
  rw [State.receive, good]
  exact (if_neg other).trans (if_neg unaddressed)

theorem State.receive_of_addressed (foreign : s.sl.ownAddress ≠ some source)
    (addressed : destination = 0 ∨ s.sl.ownAddress = some destination) :
    s.receive bytes =
      s.storeFrame { destination := destination, source := source, kind := k, payload := payload, storedAt := s.now } := by
  have other : ¬ s.isOwn source = true := fun own => foreign (beq_iff_eq.mp own)
  have mine : s.addressed destination = true := by
    rw [State.addressed, Bool.or_eq_true, beq_iff_eq]
    exact addressed.imp id beq_iff_eq.mpr
  rw [State.receive, good]
  exact (if_neg other).trans (if_pos mine)

end

end Sys2Proof.Machine

open Sys2Proof Sys2Proof.Machine

/-- Settles O42: the entry that a PRESENCE writes, with the overlap test after it, and the load that a LOAD keeps. -/
theorem peersFollowPresenceAndLoad : Obligations.PeersFollowPresenceAndLoad := by
  intro s dt started u
  refine ⟨fun f cls block defaulted admitting oldest kind reads => ?_, fun source v e l carried => ?_⟩
  · intro agrees written p put overlaps
    have next : exec (.presence dt) s = .next (u.takePresence f cls block defaulted) := by
      rw [exec_presence dt oldest kind reads, State.onFrame_of_started started]
    have entry : presenceEntry (u.findPeer f.source) f.source cls (presenceBlock cls block defaulted) f.storedAt = p := by
      show presenceEntry (s.anu.peers.find? (fun x => x.station == f.source)) f.source cls written f.storedAt = p
      simp only [p]
      cases s.anu.peers.find? (fun x => x.station == f.source) <;> rfl
    have ok : presenceSourceOk f.source cls = true ↔ agrees := presenceSourceOk_iff _ _
    have clash : (u.findsOverlap p && !p.overlap) = true ↔ overlaps ∧ p.overlap = false := by
      have writes : p.block = written := entry ▸ presenceEntry_block _ _ _ _ _
      rw [Bool.and_eq_true, State.findsOverlap_iff, Bool.not_eq_true', writes]
      rfl
    have writes (agree : agrees) : u.takePresence f cls block defaulted =
        if u.findsOverlap p && !p.overlap then (u.putPeer { p with overlap := true }).armNotice .seatOverlap f.source
        else u.putPeer p := by
      rw [State.takePresence, if_pos (ok.mpr agree), entry]
    refine ⟨fun disagree => ?_, fun agree apart => ?_, fun agree clashes first => ?_⟩
    · rw [next, State.takePresence, if_neg (mt ok.mp disagree)]
    · rw [next, writes agree, if_neg (mt clash.mp apart)]
      rfl
    · rw [next, writes agree, if_pos (clash.mpr ⟨clashes, first⟩)]
      rfl
  · intro ok
    have next : exec (.load dt) s = .next (u.takeLoad source { occupancy := v, entries := e, limit := l }) := by
      rw [exec_load dt carried, State.onFrame_of_started started]
    exact ⟨fun inRange => next.trans (congrArg Host.Outcome.next (if_pos (decide_eq_true_iff.mpr inRange))),
      fun outOfRange => next.trans
        (congrArg Host.Outcome.next (if_neg fun inRange => outOfRange (decide_eq_true_iff.mp inRange)))⟩

/-- Settles O43: the judgement of the bytes, then own source, destination and room in this order. -/
theorem receivedFrameIsJudgedAndStored : Obligations.ReceivedFrameIsJudgedAndStored := by
  intro s dt bytes quiet q len destination source passes
  have next : exec (.frameReceived dt bytes) s =
      .next (if s.rbc.rxMuted || (s.elapse dt).isStarting then q else q.receive bytes) := by
    have listening : ¬ (s.elapse dt).rbc.tx.isSending = true := by
      show ¬ s.rbc.tx.isSending = true
      rw [quiet]
      decide
    exact congrArg Host.Outcome.next (if_neg listening)
  have deaf : (s.rbc.rxMuted || (s.elapse dt).isStarting) = true ↔ s.rbc.rxMuted = true ∨ s.sl.nodeState = .starting := by
    rw [Bool.or_eq_true, State.isStarting_iff]
    rfl
  refine ⟨fun takesNothing => ?_, fun unmuted started => ?_⟩
  · rw [next, if_pos (deaf.mpr takesNothing)]
  have hears : exec (.frameReceived dt bytes) s = .next (q.receive bytes) := by
    rw [next, if_neg fun h => (deaf.mp h).elim (by rw [unmuted]; decide) started]
  refine ⟨fun fails => ?_, fun k passed => ?_⟩
  · have bad : q.receive bytes = q.count .rxBad := by
      rw [State.receive]
      obtain runt | bad := judgeFrame_of_fails fails
      · rw [runt]
      · rw [bad]
    rw [hears, bad]
  have good : judgeFrame bytes = .good destination source k (slice bytes 5 len) := judgeFrame_of_passes passed
  refine ⟨fun own => ?_, fun foreign => ⟨fun notZero notOwn => ?_, fun addressed => ?_⟩⟩
  · have mine : (q.count .rxBad).own = source := by simp [State.own, q, own]
    rw [hears, State.receive_of_own (s := q) good own, State.addressClash]
    simp only [mine, (State.count_frame _ _).2.2.2.2.2.2.2.1]
    rfl
  · rw [hears, State.receive_of_other (s := q) good foreign notZero notOwn]
  · have stored := State.receive_of_addressed (s := q) good foreign addressed
    refine ⟨fun full => ?_, fun room => ?_⟩
    · rw [hears, stored]
      exact congrArg Host.Outcome.next (if_neg (Nat.not_lt.mpr full))
    · intro c r f
      have bucket : rxLengthCounter (lengthBucket (slice bytes 5 len).length) =
          if bytes.length ≤ 63 then .rx0 else if bytes.length ≤ 255 then .rx1 else if bytes.length ≤ 1023 then .rx2 else .rx3 := by
        have whole : bytes.length = 9 + len := passed.2.2.2.1
        rw [slice_length (by omega), rxLengthCounter_lengthBucket, Nat.add_comm len 9, ← whole]
      have counted : q.count (rxLengthCounter (lengthBucket (slice bytes 5 len).length)) = c := by rw [bucket]
      have peers : c.anu.peers = s.anu.peers := (q.count_lists _).1
      have now : c.now = s.now + dt := by simp [c, q]
      have refreshed : c.refreshPeer source = r := by
        rw [State.refreshPeer, peers, now]
      have rbc : r.rbc = q.rbc := by simp [r, c]
      have put : q.storeFrame f = if f.block.isSome then r.setRbc { r.rbc with rxQueue := r.rbc.rxQueue ++ [f] } else r := by
        rw [← refreshed, ← counted]
        exact if_pos room
      rw [hears, stored]
      show Host.Outcome.next (q.storeFrame f) = _
      rw [put, rbc]
      show Host.Outcome.next (if (consumer source k f.payload).isSome then _ else r) = _
      cases consumer source k f.payload with
      | none => rfl
      | some b => rfl

end

section
/-! SUPPORT. The transmitter (R158 to R163): when a deferral has run, what the next frame in hand is, and what the blocks are told of a
completed or lost frame. -/

namespace Sys2Proof.Machine

/-! ## Deferral and sending (R161, R162) -/

theorem State.deferralRun_iff {s : State} {f : TxFrame} {n since quiet : Nat} (hand : s.rbc.tx = .defer f n since)
    (line : s.rbc.quietSince = some quiet) :
    s.deferralRun = true ↔ max since quiet + 10 * ((if f.urgent then 4 else 12) + s.own % 8 + 8 * n) ≤ s.now := by
  rw [State.deferralRun, hand, line]
  exact State.reached_iff _ _

theorem State.deferralRun_of_busy {s : State} (line : s.rbc.quietSince = none) : s.deferralRun = false := by
  rw [State.deferralRun, line]
  cases s.rbc.tx <;> rfl

theorem State.startSending_of_defer {s : State} {f : TxFrame} {n since : Nat} (hand : s.rbc.tx = .defer f n since) :
    s.startSending =
      s.setRbc
        { s.rbc with tx := .sending f n (frameBytes f.destination s.own (s.content f.body)), quietSince := none } := by
  rw [State.startSending, hand]

theorem State.admitting_eq (s : State) :
    s.admitting = decide (s.sl.nodeState = .running ∧ s.au.clients.length < s.par.limit) := by
  rw [Bool.decide_and]
  rfl

/-! ## The next frame in hand (R160) -/

theorem State.nextFrame_of_urgent {s : State} {f : TxFrame} {rest : List TxFrame} {now : Time} (time : s.now = now)
    (waits : s.rbc.txUrgent = f :: rest) :
    s.nextFrame = s.setRbc { s.rbc with tx := .defer f 0 now, txUrgent := rest } := by
  rw [State.nextFrame, waits, time]

theorem State.nextFrame_of_normal {s : State} {f : TxFrame} {rest : List TxFrame} {now : Time} (time : s.now = now)
    (noUrgent : s.rbc.txUrgent = []) (waits : s.rbc.txNormal = f :: rest) :
    s.nextFrame = s.setRbc { s.rbc with tx := .defer f 0 now, txNormal := rest } := by
  rw [State.nextFrame, noUrgent, waits, time]

theorem State.nextFrame_of_none {s : State} (noUrgent : s.rbc.txUrgent = []) (noNormal : s.rbc.txNormal = []) :
    s.nextFrame = s.setRbc { s.rbc with tx := .idle } := by
  rw [State.nextFrame, noUrgent, noNormal]

/-! ## Completion (R159, R183) -/

theorem txLengthCounter_lengthBucket (n : Nat) :
    txLengthCounter (lengthBucket (n - 9)) =
      if n ≤ 63 then .tx0 else if n ≤ 255 then .tx1 else if n ≤ 1023 then .tx2 else .tx3 := by
  have first : n - 9 + 9 ≤ 63 ↔ n ≤ 63 := by omega
  have second : n - 9 + 9 ≤ 255 ↔ n ≤ 255 := by omega
  have third : n - 9 + 9 ≤ 1023 ↔ n ≤ 1023 := by omega
  rw [lengthBucket_eq]
  simp only [first, second, third]
  split
  · rfl
  · split
    · rfl
    · split <;> rfl

theorem exec_txComplete (dt : Time) {s : State} {f : TxFrame} {n : Nat} {wire : List Byte}
    (hand : s.rbc.tx = .sending f n wire) :
    exec (.txComplete dt) s =
      .next
        (((s.elapse dt).reportCompletion f).count (txLengthCounter (lengthBucket (wire.length - 9)))).quieted.nextFrame := by
  have sent : (s.elapse dt).rbc.tx = .sending f n wire := hand
  show execTxComplete dt s = _
  simp only [execTxComplete, sent]
  rfl

/-! ## Losses and refusals (R71, R158, R159, R190) -/

theorem State.count_findPending (s : State) (k : CounterId) (c : ClientId) (n : Serial) :
    (s.count k).findPending c n = s.findPending c n := by
  simp [State.findPending]

theorem State.findPending_key {s : State} {c : ClientId} {n : Serial} {p : PendingToken} (found : s.findPending c n = some p) :
    p.client = c ∧ p.token.serial = n := by
  simpa [PendingToken.matches_eq] using List.find?_some found

theorem State.forwardLost_of_sent {s : State} {c : ClientId} {n : Serial} {p : PendingToken} {d : Station}
    (found : s.findPending c n = some p) (sent : p.destination = d) : s.forwardLost c n d = s.settleTryAgain p := by
  rw [State.forwardLost, found]
  exact if_pos sent

theorem State.forwardLost_of_other {s : State} {c : ClientId} {n : Serial} {d : Station}
    (other : ∀ p, s.findPending c n = some p → p.destination ≠ d) : s.forwardLost c n d = s := by
  rw [State.forwardLost]
  split
  next p found => exact if_neg (other p found)
  next => rfl

section
variable (s : State) {f : TxFrame}

theorem State.reportLoss_of_message {m : Message} (body : f.body = .message m) (other : ∀ c t, m ≠ .tokenForward c t) :
    s.reportLoss f = s := by
  rw [State.reportLoss, body]
  cases m with
  | tokenForward c t => exact absurd rfl (other c t)
  | _ => rfl

theorem State.reportRefusal_of_message {m : Message} (body : f.body = .message m) (other : ∀ c t, m ≠ .tokenForward c t) :
    s.reportRefusal f = s := by
  rw [State.reportRefusal, body]
  cases m with
  | tokenForward c t => exact absurd rfl (other c t)
  | _ => rfl

theorem State.reportRefusal_of_announcement {k : AnnounceKind} (body : f.body = .announcement k) : s.reportRefusal f = s := by
  rw [State.reportRefusal, body]

theorem State.reportLoss_of_announcement {k : AnnounceKind} (body : f.body = .announcement k) :
    s.reportLoss f = if k = .harvest then (s.setQueued k false).zeroSnapshot else s.setQueued k false := by
  rw [State.reportLoss, body]
  cases k <;> rfl

theorem State.reportLoss_of_forward {c : ClientId} {t : Token} (body : f.body = .message (.tokenForward c t)) :
    s.reportLoss f = s.forwardLost c t.serial f.destination := by
  rw [State.reportLoss, body]

theorem State.reportRefusal_of_forward {c : ClientId} {t : Token} (body : f.body = .message (.tokenForward c t)) :
    s.reportRefusal f = s.forwardLost c t.serial f.destination := by
  rw [State.reportRefusal, body]

end

theorem exec_txCollision (dt : Time) {s : State} {f : TxFrame} {n : Nat} {wire : List Byte}
    (hand : s.rbc.tx = .sending f n wire) :
    let collided := ((s.elapse dt).count .collisions).setRbc { s.rbc with rxMuted := true }
    exec (.txCollision dt) s =
      .next
        (if n + 1 < 6 then collided.setRbc { collided.rbc with tx := .defer f (n + 1) (s.now + dt) }
        else ((collided.count .txLost).reportLoss f).nextFrame) := by
  have sent : (s.elapse dt).rbc.tx = .sending f n wire := hand
  have bus : ((s.elapse dt).count .collisions).rbc = s.rbc := by simp
  have time : ((s.elapse dt).count .collisions).now = s.now + dt := by simp
  show execTxCollision dt s = _
  simp only [execTxCollision, sent, bus, lastAttempt, ← time]
  rfl

end Sys2Proof.Machine

open Sys2Proof Sys2Proof.Machine

/-- Settles O44: the end of the deferral as a comparison of times, and the content that stands when the frame goes out. -/
theorem deferralRunsInFull : Obligations.DeferralRunsInFull := by
  intro s dt
  refine ⟨rfl, fun f n since quiet hand line => ?_⟩
  intro length content
  let u := s.elapse dt
  have next : exec (.deferralComplete dt) s = .next (if u.deferralRun then u.startSending else u) := rfl
  have run : u.deferralRun = true ↔ max since quiet + length ≤ s.now + dt := State.deferralRun_iff (s := u) hand line
  have carries : u.content f.body = content := by
    simp only [content]
    cases f.body with
    | message m => rfl
    | announcement k =>
      cases k with
      | presence => exact congrArg (Message.presence .node s.par.block s.sl.defaulted) u.admitting_eq
      | load => rfl
      | streamWant => rfl
      | harvest => rfl
  refine ⟨fun elapsed => ?_, fun early => ?_⟩
  · rw [next, if_pos (run.mpr elapsed), State.startSending_of_defer (s := u) hand, carries]
    rfl
  · rw [next, if_neg (mt run.mp (Nat.not_le.mpr early))]

/-- Settles O45: the report of the completion by the frame's body, its count, and the next frame in hand. -/
theorem completedFrameIsCountedAndReported : Obligations.CompletedFrameIsCountedAndReported := by
  intro s dt f n wire hand u reported counted quiet
  have reports : u.reportCompletion f = reported := by
    simp only [reported, State.reportCompletion]
    cases f.body with
    | message m => rfl
    | announcement k => cases k <;> rfl
  have bus : counted.rbc = s.rbc := by
    simp only [counted, ← reports, (State.count_frame _ _).2.2.2.2.2.2.2.1]
    simp [u]
  have time : counted.now = s.now + dt := by
    simp only [counted, ← reports]
    simp [u]
  have next : exec (.txComplete dt) s = .next (counted.setRbc quiet).nextFrame := by
    rw [exec_txComplete dt hand, txLengthCounter_lengthBucket]
    show Host.Outcome.next ((u.reportCompletion f).count _).quieted.nextFrame = _
    rw [reports]
    show Host.Outcome.next counted.quieted.nextFrame = _
    rw [State.quieted, bus, time]
  refine ⟨fun g rest urgent => ?_, fun g rest noUrgent normal => ?_, fun noUrgent noNormal => ?_⟩
  · exact next.trans (congrArg Host.Outcome.next (State.nextFrame_of_urgent (s := counted.setRbc quiet) time urgent))
  · exact next.trans
      (congrArg Host.Outcome.next (State.nextFrame_of_normal (s := counted.setRbc quiet) time noUrgent normal))
  · exact next.trans (congrArg Host.Outcome.next (State.nextFrame_of_none (s := counted.setRbc quiet) noUrgent noNormal))

/-- Settles O46: back to DEFER below the sixth collision, and at the sixth the loss report by the frame's body. -/
theorem collisionDefersOrLosesTheFrame : Obligations.CollisionDefersOrLosesTheFrame := by
  intro s dt f n wire hand collided lost
  have next : exec (.txCollision dt) s = .next
      (if n + 1 < 6 then collided.setRbc { collided.rbc with tx := .defer f (n + 1) (s.now + dt) }
      else (lost.reportLoss f).nextFrame) := exec_txCollision dt hand
  refine ⟨fun few => ?_, fun many => ?_⟩
  · rw [next, if_pos (by omega)]
    rfl
  have loses : exec (.txCollision dt) s = .next (lost.reportLoss f).nextFrame := by rw [next, if_neg (by omega)]
  refine ⟨fun m body other => ?_, fun k body other => ?_, fun body => ?_, fun c t body => ?_⟩
  · rw [loses, lost.reportLoss_of_message body other]
  · rw [loses, lost.reportLoss_of_announcement body, if_neg other]
    rfl
  · rw [loses, lost.reportLoss_of_announcement body, if_pos rfl]
    rfl
  · have pending : lost.findPending c t.serial = s.findPending c t.serial :=
      (State.count_findPending _ _ _ _).trans (State.count_findPending (s.elapse dt) _ _ _)
    refine ⟨fun p found sent => ?_, fun other => ?_⟩
    · obtain ⟨client, serial⟩ := State.findPending_key found
      rw [loses, lost.reportLoss_of_forward body, State.forwardLost_of_sent (pending.trans found) sent,
        State.settleTryAgain_eq, client, serial]
    · rw [loses, lost.reportLoss_of_forward body, State.forwardLost_of_other (pending ▸ other)]

end

section
/-! SUPPORT. The hand-over of a frame (R157 to R161): where an accepted frame goes, and what a full queue does. -/

namespace Sys2Proof.Machine

theorem FrameKind.urgent_iff (k : FrameKind) :
    k.urgent = true ↔ k ∈ [FrameKind.roamClaim, .roamGrant, .roamDeny, .roamReturn, .clientMoved, .contextReply] := by
  cases k <;> decide

theorem TxFrame.urgent_of_announcement {f : TxFrame} {k : AnnounceKind} (body : f.body = .announcement k) :
    f.urgent = false := by
  rw [TxFrame.urgent, body]

/-! ## Acceptance (R157, R160, R161) -/

section
variable {s : State} {f g : TxFrame}

theorem Transmitter.hand_of_busy {t : Transmitter} (busy : t ≠ .idle) : ∃ g, t.hand = some g := by
  cases t with
  | idle => exact absurd rfl busy
  | defer g n since => exact ⟨g, rfl⟩
  | sending g n wire => exact ⟨g, rfl⟩

theorem State.acceptFrame_of_taking {since : Time} (hand : s.rbc.tx = .defer g 0 since) (urgent : f.urgent = true)
    (normal : g.urgent = false) (unreported : s.reportAccepted f = s) :
    let t := s.setRbc { s.rbc with tx := .defer f 0 since, txNormal := g :: s.rbc.txNormal }
    s.acceptFrame f = if t.deferralRun then t.startSending else t := by
  simp only [State.acceptFrame, unreported, hand, urgent, normal]
  rfl

theorem State.acceptFrame_of_waiting (hand : s.rbc.tx.hand = some g)
    (keeps : f.urgent = false ∨ g.urgent = true ∨ s.rbc.tx.attempts ≠ 0 ∨ s.rbc.tx.isSending = true) :
    s.acceptFrame f = (s.reportAccepted f).wait f := by
  have bus : (s.reportAccepted f).rbc = s.rbc := by simp
  obtain ⟨idle, -⟩ | ⟨other, since, defers, urgent, normal, -⟩ | ⟨-, waits⟩ := s.acceptFrame_cases f
  · rw [bus] at idle
    rw [idle] at hand
    exact absurd hand nofun
  · rw [bus] at defers
    rw [defers] at hand keeps
    obtain rfl : other = g := Option.some.inj hand
    simp [urgent, normal, Transmitter.attempts, Transmitter.isSending] at keeps
  · exact waits

end

/-! ## A full queue (R158) -/

section
variable {s : State} {f old : TxFrame} {front : List TxFrame}
  (transmits : s.sl.nodeState = .listening ∨ s.sl.nodeState = .running) (full : 16 ≤ s.txCount)
include transmits full

theorem State.handOver_of_refused (refused : f.urgent = false ∨ s.rbc.txNormal = []) :
    s.handOver f = ((s.count .txLost).reportRefusal f, false) := by
  obtain ⟨mute, -⟩ | ⟨room, -⟩ | ⟨front, old, -, urgent, waits, -⟩ | ⟨-, -, refuses⟩ := s.handOver_cases f
  · rcases transmits with h | h <;> rw [h] at mute <;> simp at mute
  · exact absurd room (Nat.not_lt.mpr full)
  · rcases refused with normal | empty
    · rw [urgent] at normal
      exact absurd normal nofun
    · rw [waits] at empty
      simp at empty
  · exact refuses

theorem State.handOver_of_evicting (urgent : f.urgent = true) (waits : s.rbc.txNormal = front ++ [old]) :
    s.handOver f =
      ((((s.setRbc { s.rbc with txNormal := front }).count .txLost).reportLoss old).acceptFrame f, true) := by
  have evicts : s.evict old = ((s.setRbc { s.rbc with txNormal := front }).count .txLost).reportLoss old := by
    rw [State.evict, waits, List.dropLast_concat]
  rw [← evicts]
  obtain ⟨mute, -⟩ | ⟨room, -⟩ | ⟨front', old', -, -, waits', evicted⟩ | ⟨-, normal | empty, -⟩ := s.handOver_cases f
  · rcases transmits with h | h <;> rw [h] at mute <;> simp at mute
  · exact absurd room (Nat.not_lt.mpr full)
  · obtain rfl : old' = old := by
      have same := waits'.symm.trans waits
      simpa using (List.append_inj' same rfl).2
    exact evicted
  · rw [urgent] at normal
    exact absurd normal nofun
  · rw [waits] at empty
    simp at empty

end

end Sys2Proof.Machine

open Sys2Proof Sys2Proof.Machine

/-- Settles O47: acceptance by the transmitter's state, and eviction or refusal at a full queue by the body of the frame that goes. -/
theorem handOverAcceptsEvictsOrRefuses : Obligations.HandOverAcceptsEvictsOrRefuses := by
  refine ⟨fun s d m transmits => ?_, fun s transmits => ?_, fun s f silent => ?_, fun d m => FrameKind.urgent_iff m.kind,
    fun f k body => TxFrame.urgent_of_announcement body⟩
  · intro f
    refine ⟨fun room => ?_, fun full other => ?_⟩
    · have accepts := State.handOver_of_room transmits room f
      refine ⟨accepts, fun idle => ?_, fun g since hand urgent normal => ?_, fun g hand keeps => ?_⟩
      · rw [accepts, State.acceptFrame_of_idle idle]
        rfl
      · intro taken
        have takes : s.handOver f =
            (if (s.setRbc taken).deferralRun then (s.setRbc taken).startSending else s.setRbc taken, true) := by
          rw [accepts, State.acceptFrame_of_taking hand urgent normal rfl]
        refine ⟨fun early => ?_, fun quiet line late => ?_⟩
        · have running : ¬ (s.setRbc taken).deferralRun = true := by
            cases line : s.rbc.quietSince with
            | none =>
              rw [State.deferralRun_of_busy (s := s.setRbc taken) line]
              exact Bool.false_ne_true
            | some quiet =>
              rw [State.deferralRun_iff (s := s.setRbc taken) rfl line, urgent]
              exact Nat.not_le.mpr (early quiet line)
          rw [takes, if_neg running]
        · have run : (s.setRbc taken).deferralRun = true := by
            rw [State.deferralRun_iff (s := s.setRbc taken) rfl line, urgent]
            exact late
          rw [takes, if_pos run]
          rfl
      · rw [accepts, State.acceptFrame_of_waiting hand keeps]
        show (s.wait f, true) = _
        rw [State.wait, apply_ite s.setRbc]
    · refine ⟨fun refused => ?_, fun g b front urgent waits body otherBody => ?_⟩
      · rw [State.handOver_of_refused transmits full refused, State.reportRefusal_of_message _ rfl other]
      · rw [State.handOver_of_evicting transmits full urgent waits, State.reportLoss_of_message _ body otherBody]
  · intro answered
    refine ⟨fun full d c t => ?_, fun full f g front urgent waits => ?_, fun f k body room => ?_, fun f k body full => ?_⟩
    · have pending := s.count_findPending .txLost c t.serial
      have refused : s.handOver (frameOf d (.tokenForward c t)) = ((s.count .txLost).forwardLost c t.serial d, false) := by
        rw [State.handOver_of_refused transmits full (.inl rfl), State.reportRefusal_of_forward _ rfl]
        rfl
      refine ⟨fun p found sent => ?_, fun other => ?_⟩
      · rw [refused, State.forwardLost_of_sent (pending.trans found) sent]
        rfl
      · rw [refused, State.forwardLost_of_other (pending ▸ other)]
    · intro v
      have evicted : s.handOver f = ((v.reportLoss g).acceptFrame f, true) :=
        State.handOver_of_evicting transmits full urgent waits
      refine ⟨fun k body => ?_, fun c t body => ?_⟩
      · rw [evicted, v.reportLoss_of_announcement body]
        rfl
      · have pending : v.findPending c t.serial = s.findPending c t.serial := State.count_findPending _ _ _ _
        refine ⟨fun p found sent => ?_, fun other => ?_⟩
        · rw [evicted, v.reportLoss_of_forward body, State.forwardLost_of_sent (pending.trans found) sent]
          rfl
        · rw [evicted, v.reportLoss_of_forward body, State.forwardLost_of_other (pending ▸ other)]
    · intro v
      have accepts := State.handOver_of_room transmits room f
      have reported : s.reportAccepted f = v := by
        rw [State.reportAccepted, body]
        rfl
      have normal := TxFrame.urgent_of_announcement body
      refine ⟨fun idle => ?_, fun busy => ?_⟩
      · rw [accepts, State.acceptFrame_of_idle idle, reported]
      · obtain ⟨g, hand⟩ := Transmitter.hand_of_busy busy
        rw [accepts, State.acceptFrame_of_waiting hand (.inl normal), reported, State.wait, normal]
        rfl
    · rw [State.handOver_of_refused transmits full (.inl (TxFrame.urgent_of_announcement body)),
        State.reportRefusal_of_announcement _ body]
  · exact if_pos (.inl silent)

end
